-- ==== Sys2Proof/Word.lean ====
section
/-! DEFINITION. The two word types of the machine (00_scope.md R6): 8-bit data and 16-bit addresses and pairs,
and the 64-bit type of the two clock counters (10_state.md R39). -/

namespace Sys2Proof

/-- An 8-bit value: the registers A, F, B, C, D, E, H, L and one memory cell (R6, R49). -/
abbrev Byte := BitVec 8

/-- A 16-bit value: the pairs, SP, PC and every address (R6). -/
abbrev Word := BitVec 16

/-- One of the two 64-bit cycle counters (R39). -/
abbrev Cycles := BitVec 64

end Sys2Proof
end

