-- ==== Sys2Proof/Syntax.lean ====
section
/-! DEFINITION. The instructions: one constructor per row of spec/opcode_table.json (256 primary slots and 256
CB-page slots, 30_encoding.md R84, R88, R89), those with an immediate first (Lean's compiler allows a constructor
with arguments only a small number), each part in the table's order. A constructor is named after its row: the
mnemonic, then each operand, with `at…` for "the byte in memory at" ((HL), (HL+) is `atHLi`, (HL-) is `atHLd`).
Only immediate bytes are arguments: everything else is fixed by the slot. -/

namespace Sys2Proof

/-- The seven 8-bit registers an r8 selector can name (30_encoding.md R73). -/
inductive Reg8 where
  | b | c | d | e | h | l | a
  deriving DecidableEq, Repr

/-- What an r8 selector names: a register, or the byte in memory at HL (R73). -/
inductive Operand8 where
  | reg (r : Reg8)
  | atHL
  deriving DecidableEq, Repr

/-- What an r16 selector names (R74). -/
inductive Reg16 where
  | bc | de | hl | sp
  deriving DecidableEq, Repr

/-- What an r16stk selector names (R75). -/
inductive StackPair where
  | bc | de | hl | af
  deriving DecidableEq, Repr

/-- What an r16mem selector names: the pointer of an accumulator indirect load or store (R76). -/
inductive Pointer where
  | bc | de | hlInc | hlDec
  deriving DecidableEq, Repr

/-- The condition codes (R77). -/
inductive Cond where
  | nz | z | nc | c
  deriving DecidableEq, Repr

/-- The eight ALU operations (R78). -/
inductive AluOp where
  | add | adc | sub | sbc | and | xor | or | cp
  deriving DecidableEq, Repr

/-- The eight CB-page rotates, shifts and the swap (R79). -/
inductive RotOp where
  | rlc | rrc | rl | rr | sla | sra | swap | srl
  deriving DecidableEq, Repr

/-- The four accumulator rotates of the primary page (42_rotate_shift.md R139 to R142). -/
inductive AccRot where
  | rlca | rrca | rla | rra
  deriving DecidableEq, Repr

/-- The eleven illegal slots (R85). -/
inductive IllegalSlot where
  | xD3 | xDB | xDD | xE3 | xE4 | xEB | xEC | xED | xF4 | xFC | xFD
  deriving DecidableEq, Repr

/-- The two pages of the dispatch tables (R43). -/
inductive Page where
  | primary | cb
  deriving DecidableEq, Repr

/-- One of the 512 table slots (R84): it names the descriptor a dispatch executes. -/
structure Slot where
  page : Page
  opcode : Byte
  deriving DecidableEq, Repr

/-- An instruction: one constructor per table slot, carrying its immediate (`n` an 8-bit d8, a8 or e8, `nn` a
16-bit d16 or a16, already assembled). -/
inductive Instr where
  /-- `LD BC,d16`: 01 (R204). -/
  | ld_BC_d16 (nn : Word)
  /-- `LD B,d8`: 06 (R188). -/
  | ld_B_d8 (n : Byte)
  /-- `LD (a16),SP`: 08 (R205). -/
  | ld_atA16_SP (nn : Word)
  /-- `LD C,d8`: 0E (R188). -/
  | ld_C_d8 (n : Byte)
  /-- `LD DE,d16`: 11 (R204). -/
  | ld_DE_d16 (nn : Word)
  /-- `LD D,d8`: 16 (R188). -/
  | ld_D_d8 (n : Byte)
  /-- `JR e8`: 18 (R173). -/
  | jr_e8 (n : Byte)
  /-- `LD E,d8`: 1E (R188). -/
  | ld_E_d8 (n : Byte)
  /-- `JR NZ,e8`: 20 (R174). -/
  | jr_NZ_e8 (n : Byte)
  /-- `LD HL,d16`: 21 (R204). -/
  | ld_HL_d16 (nn : Word)
  /-- `LD H,d8`: 26 (R188). -/
  | ld_H_d8 (n : Byte)
  /-- `JR Z,e8`: 28 (R174). -/
  | jr_Z_e8 (n : Byte)
  /-- `LD L,d8`: 2E (R188). -/
  | ld_L_d8 (n : Byte)
  /-- `JR NC,e8`: 30 (R174). -/
  | jr_NC_e8 (n : Byte)
  /-- `LD SP,d16`: 31 (R204). -/
  | ld_SP_d16 (nn : Word)
  /-- `LD (HL),d8`: 36 (R189). -/
  | ld_atHL_d8 (n : Byte)
  /-- `JR C,e8`: 38 (R174). -/
  | jr_C_e8 (n : Byte)
  /-- `LD A,d8`: 3E (R188). -/
  | ld_A_d8 (n : Byte)
  /-- `JP NZ,a16`: C2 (R171). -/
  | jp_NZ_a16 (nn : Word)
  /-- `JP a16`: C3 (R170). -/
  | jp_a16 (nn : Word)
  /-- `CALL NZ,a16`: C4 (R176). -/
  | call_NZ_a16 (nn : Word)
  /-- `ADD A,d8`: C6 (R98). -/
  | add_A_d8 (n : Byte)
  /-- `JP Z,a16`: CA (R171). -/
  | jp_Z_a16 (nn : Word)
  /-- `PREFIX CB`: CB (R209). -/
  | prefixCb (cb : Byte)
  /-- `CALL Z,a16`: CC (R176). -/
  | call_Z_a16 (nn : Word)
  /-- `CALL a16`: CD (R175). -/
  | call_a16 (nn : Word)
  /-- `ADC A,d8`: CE (R101). -/
  | adc_A_d8 (n : Byte)
  /-- `JP NC,a16`: D2 (R171). -/
  | jp_NC_a16 (nn : Word)
  /-- `CALL NC,a16`: D4 (R176). -/
  | call_NC_a16 (nn : Word)
  /-- `SUB d8`: D6 (R104). -/
  | sub_d8 (n : Byte)
  /-- `JP C,a16`: DA (R171). -/
  | jp_C_a16 (nn : Word)
  /-- `CALL C,a16`: DC (R176). -/
  | call_C_a16 (nn : Word)
  /-- `SBC A,d8`: DE (R107). -/
  | sbc_A_d8 (n : Byte)
  /-- `LDH (a8),A`: E0 (R200). -/
  | ldh_atA8_A (n : Byte)
  /-- `AND d8`: E6 (R110). -/
  | and_d8 (n : Byte)
  /-- `ADD SP,e8`: E8 (R133). -/
  | add_SP_e8 (n : Byte)
  /-- `LD (a16),A`: EA (R198). -/
  | ld_atA16_A (nn : Word)
  /-- `XOR d8`: EE (R113). -/
  | xor_d8 (n : Byte)
  /-- `LDH A,(a8)`: F0 (R201). -/
  | ldh_A_atA8 (n : Byte)
  /-- `OR d8`: F6 (R116). -/
  | or_d8 (n : Byte)
  /-- `LD HL,SP+e8`: F8 (R134). -/
  | ld_HL_SPe8 (n : Byte)
  /-- `LD A,(a16)`: FA (R199). -/
  | ld_A_atA16 (nn : Word)
  /-- `CP d8`: FE (R119). -/
  | cp_d8 (n : Byte)
  /-- `NOP`: 00 (R210). -/
  | nop
  /-- `LD (BC),A`: 02 (R190). -/
  | ld_atBC_A
  /-- `INC BC`: 03 (R131). -/
  | inc_BC
  /-- `INC B`: 04 (R120). -/
  | inc_B
  /-- `DEC B`: 05 (R122). -/
  | dec_B
  /-- `RLCA`: 07 (R139). -/
  | rlca
  /-- `ADD HL,BC`: 09 (R130). -/
  | add_HL_BC
  /-- `LD A,(BC)`: 0A (R192). -/
  | ld_A_atBC
  /-- `DEC BC`: 0B (R132). -/
  | dec_BC
  /-- `INC C`: 0C (R120). -/
  | inc_C
  /-- `DEC C`: 0D (R122). -/
  | dec_C
  /-- `RRCA`: 0F (R140). -/
  | rrca
  /-- `STOP`: 10 (R212). -/
  | stop
  /-- `LD (DE),A`: 12 (R191). -/
  | ld_atDE_A
  /-- `INC DE`: 13 (R131). -/
  | inc_DE
  /-- `INC D`: 14 (R120). -/
  | inc_D
  /-- `DEC D`: 15 (R122). -/
  | dec_D
  /-- `RLA`: 17 (R141). -/
  | rla
  /-- `ADD HL,DE`: 19 (R130). -/
  | add_HL_DE
  /-- `LD A,(DE)`: 1A (R193). -/
  | ld_A_atDE
  /-- `DEC DE`: 1B (R132). -/
  | dec_DE
  /-- `INC E`: 1C (R120). -/
  | inc_E
  /-- `DEC E`: 1D (R122). -/
  | dec_E
  /-- `RRA`: 1F (R142). -/
  | rra
  /-- `LD (HL+),A`: 22 (R194). -/
  | ld_atHLi_A
  /-- `INC HL`: 23 (R131). -/
  | inc_HL
  /-- `INC H`: 24 (R120). -/
  | inc_H
  /-- `DEC H`: 25 (R122). -/
  | dec_H
  /-- `DAA`: 27 (R124). -/
  | daa
  /-- `ADD HL,HL`: 29 (R130). -/
  | add_HL_HL
  /-- `LD A,(HL+)`: 2A (R196). -/
  | ld_A_atHLi
  /-- `DEC HL`: 2B (R132). -/
  | dec_HL
  /-- `INC L`: 2C (R120). -/
  | inc_L
  /-- `DEC L`: 2D (R122). -/
  | dec_L
  /-- `CPL`: 2F (R125). -/
  | cpl
  /-- `LD (HL-),A`: 32 (R195). -/
  | ld_atHLd_A
  /-- `INC SP`: 33 (R131). -/
  | inc_SP
  /-- `INC (HL)`: 34 (R121). -/
  | inc_atHL
  /-- `DEC (HL)`: 35 (R123). -/
  | dec_atHL
  /-- `SCF`: 37 (R126). -/
  | scf
  /-- `ADD HL,SP`: 39 (R130). -/
  | add_HL_SP
  /-- `LD A,(HL-)`: 3A (R197). -/
  | ld_A_atHLd
  /-- `DEC SP`: 3B (R132). -/
  | dec_SP
  /-- `INC A`: 3C (R120). -/
  | inc_A
  /-- `DEC A`: 3D (R122). -/
  | dec_A
  /-- `CCF`: 3F (R127). -/
  | ccf
  /-- `LD B,B`: 40 (R185). -/
  | ld_B_B
  /-- `LD B,C`: 41 (R185). -/
  | ld_B_C
  /-- `LD B,D`: 42 (R185). -/
  | ld_B_D
  /-- `LD B,E`: 43 (R185). -/
  | ld_B_E
  /-- `LD B,H`: 44 (R185). -/
  | ld_B_H
  /-- `LD B,L`: 45 (R185). -/
  | ld_B_L
  /-- `LD B,(HL)`: 46 (R186). -/
  | ld_B_atHL
  /-- `LD B,A`: 47 (R185). -/
  | ld_B_A
  /-- `LD C,B`: 48 (R185). -/
  | ld_C_B
  /-- `LD C,C`: 49 (R185). -/
  | ld_C_C
  /-- `LD C,D`: 4A (R185). -/
  | ld_C_D
  /-- `LD C,E`: 4B (R185). -/
  | ld_C_E
  /-- `LD C,H`: 4C (R185). -/
  | ld_C_H
  /-- `LD C,L`: 4D (R185). -/
  | ld_C_L
  /-- `LD C,(HL)`: 4E (R186). -/
  | ld_C_atHL
  /-- `LD C,A`: 4F (R185). -/
  | ld_C_A
  /-- `LD D,B`: 50 (R185). -/
  | ld_D_B
  /-- `LD D,C`: 51 (R185). -/
  | ld_D_C
  /-- `LD D,D`: 52 (R185). -/
  | ld_D_D
  /-- `LD D,E`: 53 (R185). -/
  | ld_D_E
  /-- `LD D,H`: 54 (R185). -/
  | ld_D_H
  /-- `LD D,L`: 55 (R185). -/
  | ld_D_L
  /-- `LD D,(HL)`: 56 (R186). -/
  | ld_D_atHL
  /-- `LD D,A`: 57 (R185). -/
  | ld_D_A
  /-- `LD E,B`: 58 (R185). -/
  | ld_E_B
  /-- `LD E,C`: 59 (R185). -/
  | ld_E_C
  /-- `LD E,D`: 5A (R185). -/
  | ld_E_D
  /-- `LD E,E`: 5B (R185). -/
  | ld_E_E
  /-- `LD E,H`: 5C (R185). -/
  | ld_E_H
  /-- `LD E,L`: 5D (R185). -/
  | ld_E_L
  /-- `LD E,(HL)`: 5E (R186). -/
  | ld_E_atHL
  /-- `LD E,A`: 5F (R185). -/
  | ld_E_A
  /-- `LD H,B`: 60 (R185). -/
  | ld_H_B
  /-- `LD H,C`: 61 (R185). -/
  | ld_H_C
  /-- `LD H,D`: 62 (R185). -/
  | ld_H_D
  /-- `LD H,E`: 63 (R185). -/
  | ld_H_E
  /-- `LD H,H`: 64 (R185). -/
  | ld_H_H
  /-- `LD H,L`: 65 (R185). -/
  | ld_H_L
  /-- `LD H,(HL)`: 66 (R186). -/
  | ld_H_atHL
  /-- `LD H,A`: 67 (R185). -/
  | ld_H_A
  /-- `LD L,B`: 68 (R185). -/
  | ld_L_B
  /-- `LD L,C`: 69 (R185). -/
  | ld_L_C
  /-- `LD L,D`: 6A (R185). -/
  | ld_L_D
  /-- `LD L,E`: 6B (R185). -/
  | ld_L_E
  /-- `LD L,H`: 6C (R185). -/
  | ld_L_H
  /-- `LD L,L`: 6D (R185). -/
  | ld_L_L
  /-- `LD L,(HL)`: 6E (R186). -/
  | ld_L_atHL
  /-- `LD L,A`: 6F (R185). -/
  | ld_L_A
  /-- `LD (HL),B`: 70 (R187). -/
  | ld_atHL_B
  /-- `LD (HL),C`: 71 (R187). -/
  | ld_atHL_C
  /-- `LD (HL),D`: 72 (R187). -/
  | ld_atHL_D
  /-- `LD (HL),E`: 73 (R187). -/
  | ld_atHL_E
  /-- `LD (HL),H`: 74 (R187). -/
  | ld_atHL_H
  /-- `LD (HL),L`: 75 (R187). -/
  | ld_atHL_L
  /-- `HALT`: 76 (R211). -/
  | halt
  /-- `LD (HL),A`: 77 (R187). -/
  | ld_atHL_A
  /-- `LD A,B`: 78 (R185). -/
  | ld_A_B
  /-- `LD A,C`: 79 (R185). -/
  | ld_A_C
  /-- `LD A,D`: 7A (R185). -/
  | ld_A_D
  /-- `LD A,E`: 7B (R185). -/
  | ld_A_E
  /-- `LD A,H`: 7C (R185). -/
  | ld_A_H
  /-- `LD A,L`: 7D (R185). -/
  | ld_A_L
  /-- `LD A,(HL)`: 7E (R186). -/
  | ld_A_atHL
  /-- `LD A,A`: 7F (R185). -/
  | ld_A_A
  /-- `ADD A,B`: 80 (R96). -/
  | add_A_B
  /-- `ADD A,C`: 81 (R96). -/
  | add_A_C
  /-- `ADD A,D`: 82 (R96). -/
  | add_A_D
  /-- `ADD A,E`: 83 (R96). -/
  | add_A_E
  /-- `ADD A,H`: 84 (R96). -/
  | add_A_H
  /-- `ADD A,L`: 85 (R96). -/
  | add_A_L
  /-- `ADD A,(HL)`: 86 (R97). -/
  | add_A_atHL
  /-- `ADD A,A`: 87 (R96). -/
  | add_A_A
  /-- `ADC A,B`: 88 (R99). -/
  | adc_A_B
  /-- `ADC A,C`: 89 (R99). -/
  | adc_A_C
  /-- `ADC A,D`: 8A (R99). -/
  | adc_A_D
  /-- `ADC A,E`: 8B (R99). -/
  | adc_A_E
  /-- `ADC A,H`: 8C (R99). -/
  | adc_A_H
  /-- `ADC A,L`: 8D (R99). -/
  | adc_A_L
  /-- `ADC A,(HL)`: 8E (R100). -/
  | adc_A_atHL
  /-- `ADC A,A`: 8F (R99). -/
  | adc_A_A
  /-- `SUB B`: 90 (R102). -/
  | sub_B
  /-- `SUB C`: 91 (R102). -/
  | sub_C
  /-- `SUB D`: 92 (R102). -/
  | sub_D
  /-- `SUB E`: 93 (R102). -/
  | sub_E
  /-- `SUB H`: 94 (R102). -/
  | sub_H
  /-- `SUB L`: 95 (R102). -/
  | sub_L
  /-- `SUB (HL)`: 96 (R103). -/
  | sub_atHL
  /-- `SUB A`: 97 (R102). -/
  | sub_A
  /-- `SBC A,B`: 98 (R105). -/
  | sbc_A_B
  /-- `SBC A,C`: 99 (R105). -/
  | sbc_A_C
  /-- `SBC A,D`: 9A (R105). -/
  | sbc_A_D
  /-- `SBC A,E`: 9B (R105). -/
  | sbc_A_E
  /-- `SBC A,H`: 9C (R105). -/
  | sbc_A_H
  /-- `SBC A,L`: 9D (R105). -/
  | sbc_A_L
  /-- `SBC A,(HL)`: 9E (R106). -/
  | sbc_A_atHL
  /-- `SBC A,A`: 9F (R105). -/
  | sbc_A_A
  /-- `AND B`: A0 (R108). -/
  | and_B
  /-- `AND C`: A1 (R108). -/
  | and_C
  /-- `AND D`: A2 (R108). -/
  | and_D
  /-- `AND E`: A3 (R108). -/
  | and_E
  /-- `AND H`: A4 (R108). -/
  | and_H
  /-- `AND L`: A5 (R108). -/
  | and_L
  /-- `AND (HL)`: A6 (R109). -/
  | and_atHL
  /-- `AND A`: A7 (R108). -/
  | and_A
  /-- `XOR B`: A8 (R111). -/
  | xor_B
  /-- `XOR C`: A9 (R111). -/
  | xor_C
  /-- `XOR D`: AA (R111). -/
  | xor_D
  /-- `XOR E`: AB (R111). -/
  | xor_E
  /-- `XOR H`: AC (R111). -/
  | xor_H
  /-- `XOR L`: AD (R111). -/
  | xor_L
  /-- `XOR (HL)`: AE (R112). -/
  | xor_atHL
  /-- `XOR A`: AF (R111). -/
  | xor_A
  /-- `OR B`: B0 (R114). -/
  | or_B
  /-- `OR C`: B1 (R114). -/
  | or_C
  /-- `OR D`: B2 (R114). -/
  | or_D
  /-- `OR E`: B3 (R114). -/
  | or_E
  /-- `OR H`: B4 (R114). -/
  | or_H
  /-- `OR L`: B5 (R114). -/
  | or_L
  /-- `OR (HL)`: B6 (R115). -/
  | or_atHL
  /-- `OR A`: B7 (R114). -/
  | or_A
  /-- `CP B`: B8 (R117). -/
  | cp_B
  /-- `CP C`: B9 (R117). -/
  | cp_C
  /-- `CP D`: BA (R117). -/
  | cp_D
  /-- `CP E`: BB (R117). -/
  | cp_E
  /-- `CP H`: BC (R117). -/
  | cp_H
  /-- `CP L`: BD (R117). -/
  | cp_L
  /-- `CP (HL)`: BE (R118). -/
  | cp_atHL
  /-- `CP A`: BF (R117). -/
  | cp_A
  /-- `RET NZ`: C0 (R178). -/
  | ret_NZ
  /-- `POP BC`: C1 (R182). -/
  | pop_BC
  /-- `PUSH BC`: C5 (R181). -/
  | push_BC
  /-- `RST 0x00`: C7 (R180). -/
  | rst_00
  /-- `RET Z`: C8 (R178). -/
  | ret_Z
  /-- `RET`: C9 (R177). -/
  | ret
  /-- `RST 0x08`: CF (R180). -/
  | rst_08
  /-- `RET NC`: D0 (R178). -/
  | ret_NC
  /-- `POP DE`: D1 (R182). -/
  | pop_DE
  /-- `ILLEGAL_D3`: D3 (R215). -/
  | illegal_D3
  /-- `PUSH DE`: D5 (R181). -/
  | push_DE
  /-- `RST 0x10`: D7 (R180). -/
  | rst_10
  /-- `RET C`: D8 (R178). -/
  | ret_C
  /-- `RETI`: D9 (R179). -/
  | reti
  /-- `ILLEGAL_DB`: DB (R215). -/
  | illegal_DB
  /-- `ILLEGAL_DD`: DD (R215). -/
  | illegal_DD
  /-- `RST 0x18`: DF (R180). -/
  | rst_18
  /-- `POP HL`: E1 (R182). -/
  | pop_HL
  /-- `LD (C),A`: E2 (R202). -/
  | ld_atC_A
  /-- `ILLEGAL_E3`: E3 (R215). -/
  | illegal_E3
  /-- `ILLEGAL_E4`: E4 (R215). -/
  | illegal_E4
  /-- `PUSH HL`: E5 (R181). -/
  | push_HL
  /-- `RST 0x20`: E7 (R180). -/
  | rst_20
  /-- `JP HL`: E9 (R172). -/
  | jp_HL
  /-- `ILLEGAL_EB`: EB (R215). -/
  | illegal_EB
  /-- `ILLEGAL_EC`: EC (R215). -/
  | illegal_EC
  /-- `ILLEGAL_ED`: ED (R215). -/
  | illegal_ED
  /-- `RST 0x28`: EF (R180). -/
  | rst_28
  /-- `POP AF`: F1 (R183). -/
  | pop_AF
  /-- `LD A,(C)`: F2 (R203). -/
  | ld_A_atC
  /-- `DI`: F3 (R213). -/
  | di
  /-- `ILLEGAL_F4`: F4 (R215). -/
  | illegal_F4
  /-- `PUSH AF`: F5 (R181). -/
  | push_AF
  /-- `RST 0x30`: F7 (R180). -/
  | rst_30
  /-- `LD SP,HL`: F9 (R206). -/
  | ld_SP_HL
  /-- `EI`: FB (R214). -/
  | ei
  /-- `ILLEGAL_FC`: FC (R215). -/
  | illegal_FC
  /-- `ILLEGAL_FD`: FD (R215). -/
  | illegal_FD
  /-- `RST 0x38`: FF (R180). -/
  | rst_38
  /-- `RLC B`: CB 00 (R143). -/
  | rlc_B
  /-- `RLC C`: CB 01 (R143). -/
  | rlc_C
  /-- `RLC D`: CB 02 (R143). -/
  | rlc_D
  /-- `RLC E`: CB 03 (R143). -/
  | rlc_E
  /-- `RLC H`: CB 04 (R143). -/
  | rlc_H
  /-- `RLC L`: CB 05 (R143). -/
  | rlc_L
  /-- `RLC (HL)`: CB 06 (R144). -/
  | rlc_atHL
  /-- `RLC A`: CB 07 (R143). -/
  | rlc_A
  /-- `RRC B`: CB 08 (R145). -/
  | rrc_B
  /-- `RRC C`: CB 09 (R145). -/
  | rrc_C
  /-- `RRC D`: CB 0A (R145). -/
  | rrc_D
  /-- `RRC E`: CB 0B (R145). -/
  | rrc_E
  /-- `RRC H`: CB 0C (R145). -/
  | rrc_H
  /-- `RRC L`: CB 0D (R145). -/
  | rrc_L
  /-- `RRC (HL)`: CB 0E (R146). -/
  | rrc_atHL
  /-- `RRC A`: CB 0F (R145). -/
  | rrc_A
  /-- `RL B`: CB 10 (R147). -/
  | rl_B
  /-- `RL C`: CB 11 (R147). -/
  | rl_C
  /-- `RL D`: CB 12 (R147). -/
  | rl_D
  /-- `RL E`: CB 13 (R147). -/
  | rl_E
  /-- `RL H`: CB 14 (R147). -/
  | rl_H
  /-- `RL L`: CB 15 (R147). -/
  | rl_L
  /-- `RL (HL)`: CB 16 (R148). -/
  | rl_atHL
  /-- `RL A`: CB 17 (R147). -/
  | rl_A
  /-- `RR B`: CB 18 (R149). -/
  | rr_B
  /-- `RR C`: CB 19 (R149). -/
  | rr_C
  /-- `RR D`: CB 1A (R149). -/
  | rr_D
  /-- `RR E`: CB 1B (R149). -/
  | rr_E
  /-- `RR H`: CB 1C (R149). -/
  | rr_H
  /-- `RR L`: CB 1D (R149). -/
  | rr_L
  /-- `RR (HL)`: CB 1E (R150). -/
  | rr_atHL
  /-- `RR A`: CB 1F (R149). -/
  | rr_A
  /-- `SLA B`: CB 20 (R151). -/
  | sla_B
  /-- `SLA C`: CB 21 (R151). -/
  | sla_C
  /-- `SLA D`: CB 22 (R151). -/
  | sla_D
  /-- `SLA E`: CB 23 (R151). -/
  | sla_E
  /-- `SLA H`: CB 24 (R151). -/
  | sla_H
  /-- `SLA L`: CB 25 (R151). -/
  | sla_L
  /-- `SLA (HL)`: CB 26 (R152). -/
  | sla_atHL
  /-- `SLA A`: CB 27 (R151). -/
  | sla_A
  /-- `SRA B`: CB 28 (R153). -/
  | sra_B
  /-- `SRA C`: CB 29 (R153). -/
  | sra_C
  /-- `SRA D`: CB 2A (R153). -/
  | sra_D
  /-- `SRA E`: CB 2B (R153). -/
  | sra_E
  /-- `SRA H`: CB 2C (R153). -/
  | sra_H
  /-- `SRA L`: CB 2D (R153). -/
  | sra_L
  /-- `SRA (HL)`: CB 2E (R154). -/
  | sra_atHL
  /-- `SRA A`: CB 2F (R153). -/
  | sra_A
  /-- `SWAP B`: CB 30 (R155). -/
  | swap_B
  /-- `SWAP C`: CB 31 (R155). -/
  | swap_C
  /-- `SWAP D`: CB 32 (R155). -/
  | swap_D
  /-- `SWAP E`: CB 33 (R155). -/
  | swap_E
  /-- `SWAP H`: CB 34 (R155). -/
  | swap_H
  /-- `SWAP L`: CB 35 (R155). -/
  | swap_L
  /-- `SWAP (HL)`: CB 36 (R156). -/
  | swap_atHL
  /-- `SWAP A`: CB 37 (R155). -/
  | swap_A
  /-- `SRL B`: CB 38 (R157). -/
  | srl_B
  /-- `SRL C`: CB 39 (R157). -/
  | srl_C
  /-- `SRL D`: CB 3A (R157). -/
  | srl_D
  /-- `SRL E`: CB 3B (R157). -/
  | srl_E
  /-- `SRL H`: CB 3C (R157). -/
  | srl_H
  /-- `SRL L`: CB 3D (R157). -/
  | srl_L
  /-- `SRL (HL)`: CB 3E (R158). -/
  | srl_atHL
  /-- `SRL A`: CB 3F (R157). -/
  | srl_A
  /-- `BIT 0,B`: CB 40 (R159). -/
  | bit_0_B
  /-- `BIT 0,C`: CB 41 (R159). -/
  | bit_0_C
  /-- `BIT 0,D`: CB 42 (R159). -/
  | bit_0_D
  /-- `BIT 0,E`: CB 43 (R159). -/
  | bit_0_E
  /-- `BIT 0,H`: CB 44 (R159). -/
  | bit_0_H
  /-- `BIT 0,L`: CB 45 (R159). -/
  | bit_0_L
  /-- `BIT 0,(HL)`: CB 46 (R160). -/
  | bit_0_atHL
  /-- `BIT 0,A`: CB 47 (R159). -/
  | bit_0_A
  /-- `BIT 1,B`: CB 48 (R159). -/
  | bit_1_B
  /-- `BIT 1,C`: CB 49 (R159). -/
  | bit_1_C
  /-- `BIT 1,D`: CB 4A (R159). -/
  | bit_1_D
  /-- `BIT 1,E`: CB 4B (R159). -/
  | bit_1_E
  /-- `BIT 1,H`: CB 4C (R159). -/
  | bit_1_H
  /-- `BIT 1,L`: CB 4D (R159). -/
  | bit_1_L
  /-- `BIT 1,(HL)`: CB 4E (R160). -/
  | bit_1_atHL
  /-- `BIT 1,A`: CB 4F (R159). -/
  | bit_1_A
  /-- `BIT 2,B`: CB 50 (R159). -/
  | bit_2_B
  /-- `BIT 2,C`: CB 51 (R159). -/
  | bit_2_C
  /-- `BIT 2,D`: CB 52 (R159). -/
  | bit_2_D
  /-- `BIT 2,E`: CB 53 (R159). -/
  | bit_2_E
  /-- `BIT 2,H`: CB 54 (R159). -/
  | bit_2_H
  /-- `BIT 2,L`: CB 55 (R159). -/
  | bit_2_L
  /-- `BIT 2,(HL)`: CB 56 (R160). -/
  | bit_2_atHL
  /-- `BIT 2,A`: CB 57 (R159). -/
  | bit_2_A
  /-- `BIT 3,B`: CB 58 (R159). -/
  | bit_3_B
  /-- `BIT 3,C`: CB 59 (R159). -/
  | bit_3_C
  /-- `BIT 3,D`: CB 5A (R159). -/
  | bit_3_D
  /-- `BIT 3,E`: CB 5B (R159). -/
  | bit_3_E
  /-- `BIT 3,H`: CB 5C (R159). -/
  | bit_3_H
  /-- `BIT 3,L`: CB 5D (R159). -/
  | bit_3_L
  /-- `BIT 3,(HL)`: CB 5E (R160). -/
  | bit_3_atHL
  /-- `BIT 3,A`: CB 5F (R159). -/
  | bit_3_A
  /-- `BIT 4,B`: CB 60 (R159). -/
  | bit_4_B
  /-- `BIT 4,C`: CB 61 (R159). -/
  | bit_4_C
  /-- `BIT 4,D`: CB 62 (R159). -/
  | bit_4_D
  /-- `BIT 4,E`: CB 63 (R159). -/
  | bit_4_E
  /-- `BIT 4,H`: CB 64 (R159). -/
  | bit_4_H
  /-- `BIT 4,L`: CB 65 (R159). -/
  | bit_4_L
  /-- `BIT 4,(HL)`: CB 66 (R160). -/
  | bit_4_atHL
  /-- `BIT 4,A`: CB 67 (R159). -/
  | bit_4_A
  /-- `BIT 5,B`: CB 68 (R159). -/
  | bit_5_B
  /-- `BIT 5,C`: CB 69 (R159). -/
  | bit_5_C
  /-- `BIT 5,D`: CB 6A (R159). -/
  | bit_5_D
  /-- `BIT 5,E`: CB 6B (R159). -/
  | bit_5_E
  /-- `BIT 5,H`: CB 6C (R159). -/
  | bit_5_H
  /-- `BIT 5,L`: CB 6D (R159). -/
  | bit_5_L
  /-- `BIT 5,(HL)`: CB 6E (R160). -/
  | bit_5_atHL
  /-- `BIT 5,A`: CB 6F (R159). -/
  | bit_5_A
  /-- `BIT 6,B`: CB 70 (R159). -/
  | bit_6_B
  /-- `BIT 6,C`: CB 71 (R159). -/
  | bit_6_C
  /-- `BIT 6,D`: CB 72 (R159). -/
  | bit_6_D
  /-- `BIT 6,E`: CB 73 (R159). -/
  | bit_6_E
  /-- `BIT 6,H`: CB 74 (R159). -/
  | bit_6_H
  /-- `BIT 6,L`: CB 75 (R159). -/
  | bit_6_L
  /-- `BIT 6,(HL)`: CB 76 (R160). -/
  | bit_6_atHL
  /-- `BIT 6,A`: CB 77 (R159). -/
  | bit_6_A
  /-- `BIT 7,B`: CB 78 (R159). -/
  | bit_7_B
  /-- `BIT 7,C`: CB 79 (R159). -/
  | bit_7_C
  /-- `BIT 7,D`: CB 7A (R159). -/
  | bit_7_D
  /-- `BIT 7,E`: CB 7B (R159). -/
  | bit_7_E
  /-- `BIT 7,H`: CB 7C (R159). -/
  | bit_7_H
  /-- `BIT 7,L`: CB 7D (R159). -/
  | bit_7_L
  /-- `BIT 7,(HL)`: CB 7E (R160). -/
  | bit_7_atHL
  /-- `BIT 7,A`: CB 7F (R159). -/
  | bit_7_A
  /-- `RES 0,B`: CB 80 (R161). -/
  | res_0_B
  /-- `RES 0,C`: CB 81 (R161). -/
  | res_0_C
  /-- `RES 0,D`: CB 82 (R161). -/
  | res_0_D
  /-- `RES 0,E`: CB 83 (R161). -/
  | res_0_E
  /-- `RES 0,H`: CB 84 (R161). -/
  | res_0_H
  /-- `RES 0,L`: CB 85 (R161). -/
  | res_0_L
  /-- `RES 0,(HL)`: CB 86 (R162). -/
  | res_0_atHL
  /-- `RES 0,A`: CB 87 (R161). -/
  | res_0_A
  /-- `RES 1,B`: CB 88 (R161). -/
  | res_1_B
  /-- `RES 1,C`: CB 89 (R161). -/
  | res_1_C
  /-- `RES 1,D`: CB 8A (R161). -/
  | res_1_D
  /-- `RES 1,E`: CB 8B (R161). -/
  | res_1_E
  /-- `RES 1,H`: CB 8C (R161). -/
  | res_1_H
  /-- `RES 1,L`: CB 8D (R161). -/
  | res_1_L
  /-- `RES 1,(HL)`: CB 8E (R162). -/
  | res_1_atHL
  /-- `RES 1,A`: CB 8F (R161). -/
  | res_1_A
  /-- `RES 2,B`: CB 90 (R161). -/
  | res_2_B
  /-- `RES 2,C`: CB 91 (R161). -/
  | res_2_C
  /-- `RES 2,D`: CB 92 (R161). -/
  | res_2_D
  /-- `RES 2,E`: CB 93 (R161). -/
  | res_2_E
  /-- `RES 2,H`: CB 94 (R161). -/
  | res_2_H
  /-- `RES 2,L`: CB 95 (R161). -/
  | res_2_L
  /-- `RES 2,(HL)`: CB 96 (R162). -/
  | res_2_atHL
  /-- `RES 2,A`: CB 97 (R161). -/
  | res_2_A
  /-- `RES 3,B`: CB 98 (R161). -/
  | res_3_B
  /-- `RES 3,C`: CB 99 (R161). -/
  | res_3_C
  /-- `RES 3,D`: CB 9A (R161). -/
  | res_3_D
  /-- `RES 3,E`: CB 9B (R161). -/
  | res_3_E
  /-- `RES 3,H`: CB 9C (R161). -/
  | res_3_H
  /-- `RES 3,L`: CB 9D (R161). -/
  | res_3_L
  /-- `RES 3,(HL)`: CB 9E (R162). -/
  | res_3_atHL
  /-- `RES 3,A`: CB 9F (R161). -/
  | res_3_A
  /-- `RES 4,B`: CB A0 (R161). -/
  | res_4_B
  /-- `RES 4,C`: CB A1 (R161). -/
  | res_4_C
  /-- `RES 4,D`: CB A2 (R161). -/
  | res_4_D
  /-- `RES 4,E`: CB A3 (R161). -/
  | res_4_E
  /-- `RES 4,H`: CB A4 (R161). -/
  | res_4_H
  /-- `RES 4,L`: CB A5 (R161). -/
  | res_4_L
  /-- `RES 4,(HL)`: CB A6 (R162). -/
  | res_4_atHL
  /-- `RES 4,A`: CB A7 (R161). -/
  | res_4_A
  /-- `RES 5,B`: CB A8 (R161). -/
  | res_5_B
  /-- `RES 5,C`: CB A9 (R161). -/
  | res_5_C
  /-- `RES 5,D`: CB AA (R161). -/
  | res_5_D
  /-- `RES 5,E`: CB AB (R161). -/
  | res_5_E
  /-- `RES 5,H`: CB AC (R161). -/
  | res_5_H
  /-- `RES 5,L`: CB AD (R161). -/
  | res_5_L
  /-- `RES 5,(HL)`: CB AE (R162). -/
  | res_5_atHL
  /-- `RES 5,A`: CB AF (R161). -/
  | res_5_A
  /-- `RES 6,B`: CB B0 (R161). -/
  | res_6_B
  /-- `RES 6,C`: CB B1 (R161). -/
  | res_6_C
  /-- `RES 6,D`: CB B2 (R161). -/
  | res_6_D
  /-- `RES 6,E`: CB B3 (R161). -/
  | res_6_E
  /-- `RES 6,H`: CB B4 (R161). -/
  | res_6_H
  /-- `RES 6,L`: CB B5 (R161). -/
  | res_6_L
  /-- `RES 6,(HL)`: CB B6 (R162). -/
  | res_6_atHL
  /-- `RES 6,A`: CB B7 (R161). -/
  | res_6_A
  /-- `RES 7,B`: CB B8 (R161). -/
  | res_7_B
  /-- `RES 7,C`: CB B9 (R161). -/
  | res_7_C
  /-- `RES 7,D`: CB BA (R161). -/
  | res_7_D
  /-- `RES 7,E`: CB BB (R161). -/
  | res_7_E
  /-- `RES 7,H`: CB BC (R161). -/
  | res_7_H
  /-- `RES 7,L`: CB BD (R161). -/
  | res_7_L
  /-- `RES 7,(HL)`: CB BE (R162). -/
  | res_7_atHL
  /-- `RES 7,A`: CB BF (R161). -/
  | res_7_A
  /-- `SET 0,B`: CB C0 (R163). -/
  | set_0_B
  /-- `SET 0,C`: CB C1 (R163). -/
  | set_0_C
  /-- `SET 0,D`: CB C2 (R163). -/
  | set_0_D
  /-- `SET 0,E`: CB C3 (R163). -/
  | set_0_E
  /-- `SET 0,H`: CB C4 (R163). -/
  | set_0_H
  /-- `SET 0,L`: CB C5 (R163). -/
  | set_0_L
  /-- `SET 0,(HL)`: CB C6 (R164). -/
  | set_0_atHL
  /-- `SET 0,A`: CB C7 (R163). -/
  | set_0_A
  /-- `SET 1,B`: CB C8 (R163). -/
  | set_1_B
  /-- `SET 1,C`: CB C9 (R163). -/
  | set_1_C
  /-- `SET 1,D`: CB CA (R163). -/
  | set_1_D
  /-- `SET 1,E`: CB CB (R163). -/
  | set_1_E
  /-- `SET 1,H`: CB CC (R163). -/
  | set_1_H
  /-- `SET 1,L`: CB CD (R163). -/
  | set_1_L
  /-- `SET 1,(HL)`: CB CE (R164). -/
  | set_1_atHL
  /-- `SET 1,A`: CB CF (R163). -/
  | set_1_A
  /-- `SET 2,B`: CB D0 (R163). -/
  | set_2_B
  /-- `SET 2,C`: CB D1 (R163). -/
  | set_2_C
  /-- `SET 2,D`: CB D2 (R163). -/
  | set_2_D
  /-- `SET 2,E`: CB D3 (R163). -/
  | set_2_E
  /-- `SET 2,H`: CB D4 (R163). -/
  | set_2_H
  /-- `SET 2,L`: CB D5 (R163). -/
  | set_2_L
  /-- `SET 2,(HL)`: CB D6 (R164). -/
  | set_2_atHL
  /-- `SET 2,A`: CB D7 (R163). -/
  | set_2_A
  /-- `SET 3,B`: CB D8 (R163). -/
  | set_3_B
  /-- `SET 3,C`: CB D9 (R163). -/
  | set_3_C
  /-- `SET 3,D`: CB DA (R163). -/
  | set_3_D
  /-- `SET 3,E`: CB DB (R163). -/
  | set_3_E
  /-- `SET 3,H`: CB DC (R163). -/
  | set_3_H
  /-- `SET 3,L`: CB DD (R163). -/
  | set_3_L
  /-- `SET 3,(HL)`: CB DE (R164). -/
  | set_3_atHL
  /-- `SET 3,A`: CB DF (R163). -/
  | set_3_A
  /-- `SET 4,B`: CB E0 (R163). -/
  | set_4_B
  /-- `SET 4,C`: CB E1 (R163). -/
  | set_4_C
  /-- `SET 4,D`: CB E2 (R163). -/
  | set_4_D
  /-- `SET 4,E`: CB E3 (R163). -/
  | set_4_E
  /-- `SET 4,H`: CB E4 (R163). -/
  | set_4_H
  /-- `SET 4,L`: CB E5 (R163). -/
  | set_4_L
  /-- `SET 4,(HL)`: CB E6 (R164). -/
  | set_4_atHL
  /-- `SET 4,A`: CB E7 (R163). -/
  | set_4_A
  /-- `SET 5,B`: CB E8 (R163). -/
  | set_5_B
  /-- `SET 5,C`: CB E9 (R163). -/
  | set_5_C
  /-- `SET 5,D`: CB EA (R163). -/
  | set_5_D
  /-- `SET 5,E`: CB EB (R163). -/
  | set_5_E
  /-- `SET 5,H`: CB EC (R163). -/
  | set_5_H
  /-- `SET 5,L`: CB ED (R163). -/
  | set_5_L
  /-- `SET 5,(HL)`: CB EE (R164). -/
  | set_5_atHL
  /-- `SET 5,A`: CB EF (R163). -/
  | set_5_A
  /-- `SET 6,B`: CB F0 (R163). -/
  | set_6_B
  /-- `SET 6,C`: CB F1 (R163). -/
  | set_6_C
  /-- `SET 6,D`: CB F2 (R163). -/
  | set_6_D
  /-- `SET 6,E`: CB F3 (R163). -/
  | set_6_E
  /-- `SET 6,H`: CB F4 (R163). -/
  | set_6_H
  /-- `SET 6,L`: CB F5 (R163). -/
  | set_6_L
  /-- `SET 6,(HL)`: CB F6 (R164). -/
  | set_6_atHL
  /-- `SET 6,A`: CB F7 (R163). -/
  | set_6_A
  /-- `SET 7,B`: CB F8 (R163). -/
  | set_7_B
  /-- `SET 7,C`: CB F9 (R163). -/
  | set_7_C
  /-- `SET 7,D`: CB FA (R163). -/
  | set_7_D
  /-- `SET 7,E`: CB FB (R163). -/
  | set_7_E
  /-- `SET 7,H`: CB FC (R163). -/
  | set_7_H
  /-- `SET 7,L`: CB FD (R163). -/
  | set_7_L
  /-- `SET 7,(HL)`: CB FE (R164). -/
  | set_7_atHL
  /-- `SET 7,A`: CB FF (R163). -/
  | set_7_A
  deriving DecidableEq, Repr

end Sys2Proof
end

