-- ==== Sys2Proof/Config.lean ====
section
/-! DEFINITION. The parameters the spec leaves open (00_scope.md R7, 92_eei_decisions.md), their values, and the
free value of the model with the bus accesses it is applied to. The parameters that change what a dispatch does
(`BUS`, `STOP_LENGTH`, `ILLEGAL_OPCODE_MODE`, `CYCLE_TABLE`) are plain data held in the state, so that every one of
their values is modelled. -/

namespace Sys2Proof

/-- An access of an external bus, as the bus sees it (R55 `external`, R60). -/
inductive BusEvent where
  | read (addr : Word) (value : Byte)
  | write (addr : Word) (value : Byte)
  deriving DecidableEq, Repr

end Sys2Proof

namespace Sys2Proof.Config

/-- `BUS` (R55, D8): `flat` is an array of 65,536 bytes; under `external` every read is a free input and every
access is an event of the bus (R60, R62). -/
inductive Bus where
  | flat
  | external
  deriving DecidableEq, Repr

/-- `STOP_LENGTH` (R212, D18): how many bytes STOP takes. -/
inductive StopLength where
  | one
  | two
  deriving DecidableEq, Repr

/-- `ILLEGAL_OPCODE_MODE` (R215, D19): what dispatching one of the eleven illegal slots does. -/
inductive IllegalMode where
  | nop
  | lock
  deriving DecidableEq, Repr

/-- `INTERRUPT_HOST` (R221, D28): the entry sequence the host performs when it injects an interrupt. -/
inductive InterruptHost where
  | none
  | dmgEntry
  deriving DecidableEq, Repr

/-- What `CYCLE_TABLE` says of one descriptor (D20): its cost in M-cycles when taken, which is its one cost where
it has no condition, and its cost when not taken. -/
structure CycleEntry where
  slot : Slot
  taken : Nat
  notTaken : Nat
  deriving DecidableEq, Repr

/-- `CYCLE_TABLE` (R242, D20), as plain data: the descriptors whose costs it names. A descriptor it does not name
costs what the default table says (R241); where it names one twice, the first entry holds. -/
abbrev CycleTable := List CycleEntry

/-- The parameters that a dispatch reads. No step changes them. -/
structure Params where
  bus : Bus
  stopLength : StopLength
  illegalMode : IllegalMode
  cycles : CycleTable
  deriving DecidableEq, Repr

/-- The default of every parameter a dispatch reads (R7, 92_eei_decisions.md "Parameters"). -/
def defaultParams : Params := ⟨.flat, .two, .nop, []⟩

/-- `RESET_REGS` (R48, D2): what reset puts into the registers whose reset value the spec leaves to a draw.
`flags` is F[7:4] (Z N H C from bit 3 down). -/
structure ResetRegs where
  a : Byte
  flags : BitVec 4
  b : Byte
  c : Byte
  d : Byte
  e : Byte
  h : Byte
  l : Byte
  sp : Word
  deriving DecidableEq, Repr

/-- The register values of the spec's named profile `post_boot_dmg` (D2). -/
def postBootDmg : ResetRegs :=
  ⟨0x01, 0xB, 0x00, 0x13, 0x00, 0xD8, 0x01, 0x4D, 0xFFFE⟩

/-- The PC of the profile `post_boot_dmg` (R234, D2). -/
def postBootDmgPc : Word := 0x0100

/-- DESIGN CHOICE, unsafe (assumption 1): the draw of `RESET_REGS` that `State.reset` names. The spec gives no
value and forbids choosing zero, so the draw is the one tuple of values the spec itself names. -/
def resetRegs : ResetRegs := postBootDmg

/-- `RESET_PC`, at its default (R48, R234, D2). -/
def resetPc : Word := 0x0000

/-- DESIGN CHOICE, unsafe (assumption 2): what a byte of memory reads as that nothing has written (`MEM_INIT` is
a free byte per address, R55, D9). -/
def unwrittenByte : Byte := 0x00

/-- FREE VALUE (assumption 3): what a read of the address returns on an external bus after the accesses listed, the
newest first (R55 `external`, R62, D8: "each read is any value"). It has no body: no proof can see its value. So a
read may depend on every access before it, the addresses and the values of earlier writes among them. DESIGN CHOICE:
it depends on nothing else, not on the core's registers nor on its clock, so two states of one log read alike. -/
opaque externalRead : List BusEvent → Word → Byte

end Sys2Proof.Config
end

