-- ==== Sys2Proof/Machine/Bits.lean ====
section
/-! DEFINITION. The bit-field, byte-order and sign-extension helpers of 00_scope.md R8 and R9. -/

namespace Sys2Proof

/-- `hi:lo`, the 16-bit concatenation whose first-named byte is the high one (R8). -/
def joinBytes (hi lo : Byte) : Word := hi ++ lo

/-- `v[15:8]` (R8). -/
def hiByte (v : Word) : Byte := v.extractLsb' 8 8

/-- `v[7:0]` (R8). -/
def loByte (v : Word) : Byte := v.extractLsb' 0 8

/-- `sext_16(v)`: two's complement, -128 to 127 (R9). -/
def sext16 (v : Byte) : Word := v.signExtend 16

/-- The byte `1 << b` (R161, R163). -/
def bitMask (b : Fin 8) : Byte := 1#8 <<< b.val

end Sys2Proof
end

