-- ==== Sys2Proof/WellFormed.lean ====
section
/-! DEFINITION. Which instructions as syntax can be dispatched. Every immediate is a bit vector of its field's
width, so the one check is that the primary slot 0xCB never executes alone (46_misc.md R209): the two bytes
0xCB, cb are the CB-page instruction that cb selects. -/

namespace Sys2Proof

/-- Whether a decoder can give this instruction: all but `PREFIX CB` itself (R83, R209). -/
def Instr.wellFormed : Instr → Bool
  | .prefixCb _ => false
  | _ => true

end Sys2Proof
end

