-- ==== Sys2Proof/Decode.lean ====
section
/-! DEFINITION. Decoding and encoding (30_encoding.md). The decoder follows the field layout and the selector
tables of R71 to R79: it is total on any bytes, because all 512 slots hold a descriptor (R84). The encoder follows
the opcode maps of R88 and R89, row by row, so that the two are written from different parts of the spec. -/

namespace Sys2Proof

/-! ### Selector tables (R73 to R79) -/

/-- The r8 selector (R73). -/
def Operand8.ofBits (s : BitVec 3) : Operand8 :=
  match s with
  | 0#3 => .reg .b
  | 1#3 => .reg .c
  | 2#3 => .reg .d
  | 3#3 => .reg .e
  | 4#3 => .reg .h
  | 5#3 => .reg .l
  | 6#3 => .atHL
  | 7#3 => .reg .a

/-- The r16 selector (R74). -/
def Reg16.ofBits (s : BitVec 2) : Reg16 :=
  match s with
  | 0#2 => .bc
  | 1#2 => .de
  | 2#2 => .hl
  | 3#2 => .sp

/-- The r16stk selector (R75). -/
def StackPair.ofBits (s : BitVec 2) : StackPair :=
  match s with
  | 0#2 => .bc
  | 1#2 => .de
  | 2#2 => .hl
  | 3#2 => .af

/-- The r16mem selector (R76). -/
def Pointer.ofBits (s : BitVec 2) : Pointer :=
  match s with
  | 0#2 => .bc
  | 1#2 => .de
  | 2#2 => .hlInc
  | 3#2 => .hlDec

/-- The cc selector (R77). -/
def Cond.ofBits (s : BitVec 2) : Cond :=
  match s with
  | 0#2 => .nz
  | 1#2 => .z
  | 2#2 => .nc
  | 3#2 => .c

/-- The ALU operation selector (R78). -/
def AluOp.ofBits (s : BitVec 3) : AluOp :=
  match s with
  | 0#3 => .add
  | 1#3 => .adc
  | 2#3 => .sub
  | 3#3 => .sbc
  | 4#3 => .and
  | 5#3 => .xor
  | 6#3 => .or
  | 7#3 => .cp

/-- The CB rotate/shift selector (R79). -/
def RotOp.ofBits (s : BitVec 3) : RotOp :=
  match s with
  | 0#3 => .rlc
  | 1#3 => .rrc
  | 2#3 => .rl
  | 3#3 => .rr
  | 4#3 => .sla
  | 5#3 => .sra
  | 6#3 => .swap
  | 7#3 => .srl

/-- The accumulator rotate selected by bits 4:3 of the opcode (R139 to R142). -/
def AccRot.ofBits (s : BitVec 2) : AccRot :=
  match s with
  | 0#2 => .rlca
  | 1#2 => .rrca
  | 2#2 => .rla
  | 3#2 => .rra

/-! ### Slots by their selectors

Each function below names the constructor of one group of slots from its selectors. -/

/-- The ALU group on A and an r8 operand, `x = 2` (R88, R96 to R118). -/
def Instr.ofAlu : AluOp → Operand8 → Instr
  | .add, .reg .b => .add_A_B
  | .add, .reg .c => .add_A_C
  | .add, .reg .d => .add_A_D
  | .add, .reg .e => .add_A_E
  | .add, .reg .h => .add_A_H
  | .add, .reg .l => .add_A_L
  | .add, .atHL => .add_A_atHL
  | .add, .reg .a => .add_A_A
  | .adc, .reg .b => .adc_A_B
  | .adc, .reg .c => .adc_A_C
  | .adc, .reg .d => .adc_A_D
  | .adc, .reg .e => .adc_A_E
  | .adc, .reg .h => .adc_A_H
  | .adc, .reg .l => .adc_A_L
  | .adc, .atHL => .adc_A_atHL
  | .adc, .reg .a => .adc_A_A
  | .sub, .reg .b => .sub_B
  | .sub, .reg .c => .sub_C
  | .sub, .reg .d => .sub_D
  | .sub, .reg .e => .sub_E
  | .sub, .reg .h => .sub_H
  | .sub, .reg .l => .sub_L
  | .sub, .atHL => .sub_atHL
  | .sub, .reg .a => .sub_A
  | .sbc, .reg .b => .sbc_A_B
  | .sbc, .reg .c => .sbc_A_C
  | .sbc, .reg .d => .sbc_A_D
  | .sbc, .reg .e => .sbc_A_E
  | .sbc, .reg .h => .sbc_A_H
  | .sbc, .reg .l => .sbc_A_L
  | .sbc, .atHL => .sbc_A_atHL
  | .sbc, .reg .a => .sbc_A_A
  | .and, .reg .b => .and_B
  | .and, .reg .c => .and_C
  | .and, .reg .d => .and_D
  | .and, .reg .e => .and_E
  | .and, .reg .h => .and_H
  | .and, .reg .l => .and_L
  | .and, .atHL => .and_atHL
  | .and, .reg .a => .and_A
  | .xor, .reg .b => .xor_B
  | .xor, .reg .c => .xor_C
  | .xor, .reg .d => .xor_D
  | .xor, .reg .e => .xor_E
  | .xor, .reg .h => .xor_H
  | .xor, .reg .l => .xor_L
  | .xor, .atHL => .xor_atHL
  | .xor, .reg .a => .xor_A
  | .or, .reg .b => .or_B
  | .or, .reg .c => .or_C
  | .or, .reg .d => .or_D
  | .or, .reg .e => .or_E
  | .or, .reg .h => .or_H
  | .or, .reg .l => .or_L
  | .or, .atHL => .or_atHL
  | .or, .reg .a => .or_A
  | .cp, .reg .b => .cp_B
  | .cp, .reg .c => .cp_C
  | .cp, .reg .d => .cp_D
  | .cp, .reg .e => .cp_E
  | .cp, .reg .h => .cp_H
  | .cp, .reg .l => .cp_L
  | .cp, .atHL => .cp_atHL
  | .cp, .reg .a => .cp_A

/-- The ALU group on A and d8, `x = 3, z = 6` (R88). -/
def Instr.ofAluImm : AluOp → Byte → Instr
  | .add, n => .add_A_d8 n
  | .adc, n => .adc_A_d8 n
  | .sub, n => .sub_d8 n
  | .sbc, n => .sbc_A_d8 n
  | .and, n => .and_d8 n
  | .xor, n => .xor_d8 n
  | .or, n => .or_d8 n
  | .cp, n => .cp_d8 n

/-- INC on an r8 operand (R120, R121). -/
def Instr.ofInc : Operand8 → Instr
  | .reg .b => .inc_B
  | .reg .c => .inc_C
  | .reg .d => .inc_D
  | .reg .e => .inc_E
  | .reg .h => .inc_H
  | .reg .l => .inc_L
  | .atHL => .inc_atHL
  | .reg .a => .inc_A

/-- DEC on an r8 operand (R122, R123). -/
def Instr.ofDec : Operand8 → Instr
  | .reg .b => .dec_B
  | .reg .c => .dec_C
  | .reg .d => .dec_D
  | .reg .e => .dec_E
  | .reg .h => .dec_H
  | .reg .l => .dec_L
  | .atHL => .dec_atHL
  | .reg .a => .dec_A

/-- The block `x = 1`: LD between r8 operands, with HALT where LD (HL),(HL) would stand (R88, R185 to R187,
R211). -/
def Instr.ofLd : Operand8 → Operand8 → Instr
  | .reg .b, .reg .b => .ld_B_B
  | .reg .b, .reg .c => .ld_B_C
  | .reg .b, .reg .d => .ld_B_D
  | .reg .b, .reg .e => .ld_B_E
  | .reg .b, .reg .h => .ld_B_H
  | .reg .b, .reg .l => .ld_B_L
  | .reg .b, .atHL => .ld_B_atHL
  | .reg .b, .reg .a => .ld_B_A
  | .reg .c, .reg .b => .ld_C_B
  | .reg .c, .reg .c => .ld_C_C
  | .reg .c, .reg .d => .ld_C_D
  | .reg .c, .reg .e => .ld_C_E
  | .reg .c, .reg .h => .ld_C_H
  | .reg .c, .reg .l => .ld_C_L
  | .reg .c, .atHL => .ld_C_atHL
  | .reg .c, .reg .a => .ld_C_A
  | .reg .d, .reg .b => .ld_D_B
  | .reg .d, .reg .c => .ld_D_C
  | .reg .d, .reg .d => .ld_D_D
  | .reg .d, .reg .e => .ld_D_E
  | .reg .d, .reg .h => .ld_D_H
  | .reg .d, .reg .l => .ld_D_L
  | .reg .d, .atHL => .ld_D_atHL
  | .reg .d, .reg .a => .ld_D_A
  | .reg .e, .reg .b => .ld_E_B
  | .reg .e, .reg .c => .ld_E_C
  | .reg .e, .reg .d => .ld_E_D
  | .reg .e, .reg .e => .ld_E_E
  | .reg .e, .reg .h => .ld_E_H
  | .reg .e, .reg .l => .ld_E_L
  | .reg .e, .atHL => .ld_E_atHL
  | .reg .e, .reg .a => .ld_E_A
  | .reg .h, .reg .b => .ld_H_B
  | .reg .h, .reg .c => .ld_H_C
  | .reg .h, .reg .d => .ld_H_D
  | .reg .h, .reg .e => .ld_H_E
  | .reg .h, .reg .h => .ld_H_H
  | .reg .h, .reg .l => .ld_H_L
  | .reg .h, .atHL => .ld_H_atHL
  | .reg .h, .reg .a => .ld_H_A
  | .reg .l, .reg .b => .ld_L_B
  | .reg .l, .reg .c => .ld_L_C
  | .reg .l, .reg .d => .ld_L_D
  | .reg .l, .reg .e => .ld_L_E
  | .reg .l, .reg .h => .ld_L_H
  | .reg .l, .reg .l => .ld_L_L
  | .reg .l, .atHL => .ld_L_atHL
  | .reg .l, .reg .a => .ld_L_A
  | .atHL, .reg .b => .ld_atHL_B
  | .atHL, .reg .c => .ld_atHL_C
  | .atHL, .reg .d => .ld_atHL_D
  | .atHL, .reg .e => .ld_atHL_E
  | .atHL, .reg .h => .ld_atHL_H
  | .atHL, .reg .l => .ld_atHL_L
  | .atHL, .atHL => .halt
  | .atHL, .reg .a => .ld_atHL_A
  | .reg .a, .reg .b => .ld_A_B
  | .reg .a, .reg .c => .ld_A_C
  | .reg .a, .reg .d => .ld_A_D
  | .reg .a, .reg .e => .ld_A_E
  | .reg .a, .reg .h => .ld_A_H
  | .reg .a, .reg .l => .ld_A_L
  | .reg .a, .atHL => .ld_A_atHL
  | .reg .a, .reg .a => .ld_A_A

/-- LD of d8 into an r8 operand (R188, R189). -/
def Instr.ofLdImm : Operand8 → Byte → Instr
  | .reg .b, n => .ld_B_d8 n
  | .reg .c, n => .ld_C_d8 n
  | .reg .d, n => .ld_D_d8 n
  | .reg .e, n => .ld_E_d8 n
  | .reg .h, n => .ld_H_d8 n
  | .reg .l, n => .ld_L_d8 n
  | .atHL, n => .ld_atHL_d8 n
  | .reg .a, n => .ld_A_d8 n

/-- LD (pointer),A (R190, R191, R194, R195). -/
def Instr.ofStoreA : Pointer → Instr
  | .bc => .ld_atBC_A
  | .de => .ld_atDE_A
  | .hlInc => .ld_atHLi_A
  | .hlDec => .ld_atHLd_A

/-- LD A,(pointer) (R192, R193, R196, R197). -/
def Instr.ofLoadA : Pointer → Instr
  | .bc => .ld_A_atBC
  | .de => .ld_A_atDE
  | .hlInc => .ld_A_atHLi
  | .hlDec => .ld_A_atHLd

/-- LD rr,d16 (R204). -/
def Instr.ofLd16 : Reg16 → Word → Instr
  | .bc, nn => .ld_BC_d16 nn
  | .de, nn => .ld_DE_d16 nn
  | .hl, nn => .ld_HL_d16 nn
  | .sp, nn => .ld_SP_d16 nn

/-- ADD HL,rr (R130). -/
def Instr.ofAddHL : Reg16 → Instr
  | .bc => .add_HL_BC
  | .de => .add_HL_DE
  | .hl => .add_HL_HL
  | .sp => .add_HL_SP

/-- INC rr (R131). -/
def Instr.ofInc16 : Reg16 → Instr
  | .bc => .inc_BC
  | .de => .inc_DE
  | .hl => .inc_HL
  | .sp => .inc_SP

/-- DEC rr (R132). -/
def Instr.ofDec16 : Reg16 → Instr
  | .bc => .dec_BC
  | .de => .dec_DE
  | .hl => .dec_HL
  | .sp => .dec_SP

/-- PUSH rr (R181). -/
def Instr.ofPush : StackPair → Instr
  | .bc => .push_BC
  | .de => .push_DE
  | .hl => .push_HL
  | .af => .push_AF

/-- POP rr (R182, R183). -/
def Instr.ofPop : StackPair → Instr
  | .bc => .pop_BC
  | .de => .pop_DE
  | .hl => .pop_HL
  | .af => .pop_AF

/-- The accumulator rotates (R139 to R142). -/
def Instr.ofAccRot : AccRot → Instr
  | .rlca => .rlca
  | .rrca => .rrca
  | .rla => .rla
  | .rra => .rra

/-- JP a16 and JP cc,a16: the unconditional form is the condition pre-satisfied (R165, R170, R171). -/
def Instr.ofJp : Option Cond → Word → Instr
  | none, nn => .jp_a16 nn
  | some .nz, nn => .jp_NZ_a16 nn
  | some .z, nn => .jp_Z_a16 nn
  | some .nc, nn => .jp_NC_a16 nn
  | some .c, nn => .jp_C_a16 nn

/-- JR e8 and JR cc,e8 (R173, R174). -/
def Instr.ofJr : Option Cond → Byte → Instr
  | none, n => .jr_e8 n
  | some .nz, n => .jr_NZ_e8 n
  | some .z, n => .jr_Z_e8 n
  | some .nc, n => .jr_NC_e8 n
  | some .c, n => .jr_C_e8 n

/-- CALL a16 and CALL cc,a16 (R175, R176). -/
def Instr.ofCall : Option Cond → Word → Instr
  | none, nn => .call_a16 nn
  | some .nz, nn => .call_NZ_a16 nn
  | some .z, nn => .call_Z_a16 nn
  | some .nc, nn => .call_NC_a16 nn
  | some .c, nn => .call_C_a16 nn

/-- RET and RET cc (R177, R178). -/
def Instr.ofRet : Option Cond → Instr
  | none => .ret
  | some .nz => .ret_NZ
  | some .z => .ret_Z
  | some .nc => .ret_NC
  | some .c => .ret_C

/-- RST t (R180). -/
def Instr.ofRst : Fin 8 → Instr
  | 0 => .rst_00
  | 1 => .rst_08
  | 2 => .rst_10
  | 3 => .rst_18
  | 4 => .rst_20
  | 5 => .rst_28
  | 6 => .rst_30
  | 7 => .rst_38

/-- The eleven illegal slots (R85). -/
def Instr.ofIllegal : IllegalSlot → Instr
  | .xD3 => .illegal_D3
  | .xDB => .illegal_DB
  | .xDD => .illegal_DD
  | .xE3 => .illegal_E3
  | .xE4 => .illegal_E4
  | .xEB => .illegal_EB
  | .xEC => .illegal_EC
  | .xED => .illegal_ED
  | .xF4 => .illegal_F4
  | .xFC => .illegal_FC
  | .xFD => .illegal_FD

/-- CB group 0: rotates, shifts and swap (R72, R79). -/
def Instr.ofRot : RotOp → Operand8 → Instr
  | .rlc, .reg .b => .rlc_B
  | .rlc, .reg .c => .rlc_C
  | .rlc, .reg .d => .rlc_D
  | .rlc, .reg .e => .rlc_E
  | .rlc, .reg .h => .rlc_H
  | .rlc, .reg .l => .rlc_L
  | .rlc, .atHL => .rlc_atHL
  | .rlc, .reg .a => .rlc_A
  | .rrc, .reg .b => .rrc_B
  | .rrc, .reg .c => .rrc_C
  | .rrc, .reg .d => .rrc_D
  | .rrc, .reg .e => .rrc_E
  | .rrc, .reg .h => .rrc_H
  | .rrc, .reg .l => .rrc_L
  | .rrc, .atHL => .rrc_atHL
  | .rrc, .reg .a => .rrc_A
  | .rl, .reg .b => .rl_B
  | .rl, .reg .c => .rl_C
  | .rl, .reg .d => .rl_D
  | .rl, .reg .e => .rl_E
  | .rl, .reg .h => .rl_H
  | .rl, .reg .l => .rl_L
  | .rl, .atHL => .rl_atHL
  | .rl, .reg .a => .rl_A
  | .rr, .reg .b => .rr_B
  | .rr, .reg .c => .rr_C
  | .rr, .reg .d => .rr_D
  | .rr, .reg .e => .rr_E
  | .rr, .reg .h => .rr_H
  | .rr, .reg .l => .rr_L
  | .rr, .atHL => .rr_atHL
  | .rr, .reg .a => .rr_A
  | .sla, .reg .b => .sla_B
  | .sla, .reg .c => .sla_C
  | .sla, .reg .d => .sla_D
  | .sla, .reg .e => .sla_E
  | .sla, .reg .h => .sla_H
  | .sla, .reg .l => .sla_L
  | .sla, .atHL => .sla_atHL
  | .sla, .reg .a => .sla_A
  | .sra, .reg .b => .sra_B
  | .sra, .reg .c => .sra_C
  | .sra, .reg .d => .sra_D
  | .sra, .reg .e => .sra_E
  | .sra, .reg .h => .sra_H
  | .sra, .reg .l => .sra_L
  | .sra, .atHL => .sra_atHL
  | .sra, .reg .a => .sra_A
  | .swap, .reg .b => .swap_B
  | .swap, .reg .c => .swap_C
  | .swap, .reg .d => .swap_D
  | .swap, .reg .e => .swap_E
  | .swap, .reg .h => .swap_H
  | .swap, .reg .l => .swap_L
  | .swap, .atHL => .swap_atHL
  | .swap, .reg .a => .swap_A
  | .srl, .reg .b => .srl_B
  | .srl, .reg .c => .srl_C
  | .srl, .reg .d => .srl_D
  | .srl, .reg .e => .srl_E
  | .srl, .reg .h => .srl_H
  | .srl, .reg .l => .srl_L
  | .srl, .atHL => .srl_atHL
  | .srl, .reg .a => .srl_A

/-- CB group 1: BIT b (R159, R160). -/
def Instr.ofBit : Fin 8 → Operand8 → Instr
  | 0, .reg .b => .bit_0_B
  | 0, .reg .c => .bit_0_C
  | 0, .reg .d => .bit_0_D
  | 0, .reg .e => .bit_0_E
  | 0, .reg .h => .bit_0_H
  | 0, .reg .l => .bit_0_L
  | 0, .atHL => .bit_0_atHL
  | 0, .reg .a => .bit_0_A
  | 1, .reg .b => .bit_1_B
  | 1, .reg .c => .bit_1_C
  | 1, .reg .d => .bit_1_D
  | 1, .reg .e => .bit_1_E
  | 1, .reg .h => .bit_1_H
  | 1, .reg .l => .bit_1_L
  | 1, .atHL => .bit_1_atHL
  | 1, .reg .a => .bit_1_A
  | 2, .reg .b => .bit_2_B
  | 2, .reg .c => .bit_2_C
  | 2, .reg .d => .bit_2_D
  | 2, .reg .e => .bit_2_E
  | 2, .reg .h => .bit_2_H
  | 2, .reg .l => .bit_2_L
  | 2, .atHL => .bit_2_atHL
  | 2, .reg .a => .bit_2_A
  | 3, .reg .b => .bit_3_B
  | 3, .reg .c => .bit_3_C
  | 3, .reg .d => .bit_3_D
  | 3, .reg .e => .bit_3_E
  | 3, .reg .h => .bit_3_H
  | 3, .reg .l => .bit_3_L
  | 3, .atHL => .bit_3_atHL
  | 3, .reg .a => .bit_3_A
  | 4, .reg .b => .bit_4_B
  | 4, .reg .c => .bit_4_C
  | 4, .reg .d => .bit_4_D
  | 4, .reg .e => .bit_4_E
  | 4, .reg .h => .bit_4_H
  | 4, .reg .l => .bit_4_L
  | 4, .atHL => .bit_4_atHL
  | 4, .reg .a => .bit_4_A
  | 5, .reg .b => .bit_5_B
  | 5, .reg .c => .bit_5_C
  | 5, .reg .d => .bit_5_D
  | 5, .reg .e => .bit_5_E
  | 5, .reg .h => .bit_5_H
  | 5, .reg .l => .bit_5_L
  | 5, .atHL => .bit_5_atHL
  | 5, .reg .a => .bit_5_A
  | 6, .reg .b => .bit_6_B
  | 6, .reg .c => .bit_6_C
  | 6, .reg .d => .bit_6_D
  | 6, .reg .e => .bit_6_E
  | 6, .reg .h => .bit_6_H
  | 6, .reg .l => .bit_6_L
  | 6, .atHL => .bit_6_atHL
  | 6, .reg .a => .bit_6_A
  | 7, .reg .b => .bit_7_B
  | 7, .reg .c => .bit_7_C
  | 7, .reg .d => .bit_7_D
  | 7, .reg .e => .bit_7_E
  | 7, .reg .h => .bit_7_H
  | 7, .reg .l => .bit_7_L
  | 7, .atHL => .bit_7_atHL
  | 7, .reg .a => .bit_7_A

/-- CB group 2: RES b (R161, R162). -/
def Instr.ofRes : Fin 8 → Operand8 → Instr
  | 0, .reg .b => .res_0_B
  | 0, .reg .c => .res_0_C
  | 0, .reg .d => .res_0_D
  | 0, .reg .e => .res_0_E
  | 0, .reg .h => .res_0_H
  | 0, .reg .l => .res_0_L
  | 0, .atHL => .res_0_atHL
  | 0, .reg .a => .res_0_A
  | 1, .reg .b => .res_1_B
  | 1, .reg .c => .res_1_C
  | 1, .reg .d => .res_1_D
  | 1, .reg .e => .res_1_E
  | 1, .reg .h => .res_1_H
  | 1, .reg .l => .res_1_L
  | 1, .atHL => .res_1_atHL
  | 1, .reg .a => .res_1_A
  | 2, .reg .b => .res_2_B
  | 2, .reg .c => .res_2_C
  | 2, .reg .d => .res_2_D
  | 2, .reg .e => .res_2_E
  | 2, .reg .h => .res_2_H
  | 2, .reg .l => .res_2_L
  | 2, .atHL => .res_2_atHL
  | 2, .reg .a => .res_2_A
  | 3, .reg .b => .res_3_B
  | 3, .reg .c => .res_3_C
  | 3, .reg .d => .res_3_D
  | 3, .reg .e => .res_3_E
  | 3, .reg .h => .res_3_H
  | 3, .reg .l => .res_3_L
  | 3, .atHL => .res_3_atHL
  | 3, .reg .a => .res_3_A
  | 4, .reg .b => .res_4_B
  | 4, .reg .c => .res_4_C
  | 4, .reg .d => .res_4_D
  | 4, .reg .e => .res_4_E
  | 4, .reg .h => .res_4_H
  | 4, .reg .l => .res_4_L
  | 4, .atHL => .res_4_atHL
  | 4, .reg .a => .res_4_A
  | 5, .reg .b => .res_5_B
  | 5, .reg .c => .res_5_C
  | 5, .reg .d => .res_5_D
  | 5, .reg .e => .res_5_E
  | 5, .reg .h => .res_5_H
  | 5, .reg .l => .res_5_L
  | 5, .atHL => .res_5_atHL
  | 5, .reg .a => .res_5_A
  | 6, .reg .b => .res_6_B
  | 6, .reg .c => .res_6_C
  | 6, .reg .d => .res_6_D
  | 6, .reg .e => .res_6_E
  | 6, .reg .h => .res_6_H
  | 6, .reg .l => .res_6_L
  | 6, .atHL => .res_6_atHL
  | 6, .reg .a => .res_6_A
  | 7, .reg .b => .res_7_B
  | 7, .reg .c => .res_7_C
  | 7, .reg .d => .res_7_D
  | 7, .reg .e => .res_7_E
  | 7, .reg .h => .res_7_H
  | 7, .reg .l => .res_7_L
  | 7, .atHL => .res_7_atHL
  | 7, .reg .a => .res_7_A

/-- CB group 3: SET b (R163, R164). -/
def Instr.ofSet : Fin 8 → Operand8 → Instr
  | 0, .reg .b => .set_0_B
  | 0, .reg .c => .set_0_C
  | 0, .reg .d => .set_0_D
  | 0, .reg .e => .set_0_E
  | 0, .reg .h => .set_0_H
  | 0, .reg .l => .set_0_L
  | 0, .atHL => .set_0_atHL
  | 0, .reg .a => .set_0_A
  | 1, .reg .b => .set_1_B
  | 1, .reg .c => .set_1_C
  | 1, .reg .d => .set_1_D
  | 1, .reg .e => .set_1_E
  | 1, .reg .h => .set_1_H
  | 1, .reg .l => .set_1_L
  | 1, .atHL => .set_1_atHL
  | 1, .reg .a => .set_1_A
  | 2, .reg .b => .set_2_B
  | 2, .reg .c => .set_2_C
  | 2, .reg .d => .set_2_D
  | 2, .reg .e => .set_2_E
  | 2, .reg .h => .set_2_H
  | 2, .reg .l => .set_2_L
  | 2, .atHL => .set_2_atHL
  | 2, .reg .a => .set_2_A
  | 3, .reg .b => .set_3_B
  | 3, .reg .c => .set_3_C
  | 3, .reg .d => .set_3_D
  | 3, .reg .e => .set_3_E
  | 3, .reg .h => .set_3_H
  | 3, .reg .l => .set_3_L
  | 3, .atHL => .set_3_atHL
  | 3, .reg .a => .set_3_A
  | 4, .reg .b => .set_4_B
  | 4, .reg .c => .set_4_C
  | 4, .reg .d => .set_4_D
  | 4, .reg .e => .set_4_E
  | 4, .reg .h => .set_4_H
  | 4, .reg .l => .set_4_L
  | 4, .atHL => .set_4_atHL
  | 4, .reg .a => .set_4_A
  | 5, .reg .b => .set_5_B
  | 5, .reg .c => .set_5_C
  | 5, .reg .d => .set_5_D
  | 5, .reg .e => .set_5_E
  | 5, .reg .h => .set_5_H
  | 5, .reg .l => .set_5_L
  | 5, .atHL => .set_5_atHL
  | 5, .reg .a => .set_5_A
  | 6, .reg .b => .set_6_B
  | 6, .reg .c => .set_6_C
  | 6, .reg .d => .set_6_D
  | 6, .reg .e => .set_6_E
  | 6, .reg .h => .set_6_H
  | 6, .reg .l => .set_6_L
  | 6, .atHL => .set_6_atHL
  | 6, .reg .a => .set_6_A
  | 7, .reg .b => .set_7_B
  | 7, .reg .c => .set_7_C
  | 7, .reg .d => .set_7_D
  | 7, .reg .e => .set_7_E
  | 7, .reg .h => .set_7_H
  | 7, .reg .l => .set_7_L
  | 7, .atHL => .set_7_atHL
  | 7, .reg .a => .set_7_A

/-! ### The two tables (R83, R84) -/

/-- The CB table: the instruction the byte after 0xCB selects (R72, R83, R89). -/
def decodeCb (cb : Byte) : Instr :=
  let y := cb.extractLsb' 3 3
  let o := Operand8.ofBits (cb.extractLsb' 0 3)
  match cb.extractLsb' 6 2 with
  | 0#2 => .ofRot (.ofBits y) o
  | 1#2 => .ofBit y.toFin o
  | 2#2 => .ofRes y.toFin o
  | 3#2 => .ofSet y.toFin o

/-- The primary table's rows with `x = 0` (R88). -/
def decodeX0 (op b2 b3 : Byte) : Instr :=
  let y := op.extractLsb' 3 3
  let p := op.extractLsb' 4 2
  let q := op.getLsbD 3
  match op.extractLsb' 0 3 with
  | 0#3 =>
    match y with
    | 0#3 => .nop
    | 1#3 => .ld_atA16_SP (joinBytes b3 b2)
    | 2#3 => .stop
    | 3#3 => .ofJr none b2
    | 4#3 => .ofJr (some .nz) b2
    | 5#3 => .ofJr (some .z) b2
    | 6#3 => .ofJr (some .nc) b2
    | 7#3 => .ofJr (some .c) b2
  | 1#3 => if q then .ofAddHL (.ofBits p) else .ofLd16 (.ofBits p) (joinBytes b3 b2)
  | 2#3 => if q then .ofLoadA (.ofBits p) else .ofStoreA (.ofBits p)
  | 3#3 => if q then .ofDec16 (.ofBits p) else .ofInc16 (.ofBits p)
  | 4#3 => .ofInc (.ofBits y)
  | 5#3 => .ofDec (.ofBits y)
  | 6#3 => .ofLdImm (.ofBits y) b2
  | 7#3 =>
    match y with
    | 4#3 => .daa
    | 5#3 => .cpl
    | 6#3 => .scf
    | 7#3 => .ccf
    | _ => .ofAccRot (.ofBits (op.extractLsb' 3 2))

/-- The primary table's rows with `x = 3` (R88). -/
def decodeX3 (op b2 b3 : Byte) : Instr :=
  let y := op.extractLsb' 3 3
  let p := op.extractLsb' 4 2
  let q := op.getLsbD 3
  let cc : Cond := .ofBits (op.extractLsb' 3 2)
  let nn := joinBytes b3 b2
  match op.extractLsb' 0 3 with
  | 0#3 =>
    match y with
    | 4#3 => .ldh_atA8_A b2
    | 5#3 => .add_SP_e8 b2
    | 6#3 => .ldh_A_atA8 b2
    | 7#3 => .ld_HL_SPe8 b2
    | _ => .ofRet (some cc)
  | 1#3 =>
    if q then
      match p with
      | 0#2 => .ofRet none
      | 1#2 => .reti
      | 2#2 => .jp_HL
      | 3#2 => .ld_SP_HL
    else .ofPop (.ofBits p)
  | 2#3 =>
    match y with
    | 4#3 => .ld_atC_A
    | 5#3 => .ld_atA16_A nn
    | 6#3 => .ld_A_atC
    | 7#3 => .ld_A_atA16 nn
    | _ => .ofJp (some cc) nn
  | 3#3 =>
    match y with
    | 0#3 => .ofJp none nn
    | 1#3 => .prefixCb b2
    | 2#3 => .ofIllegal .xD3
    | 3#3 => .ofIllegal .xDB
    | 4#3 => .ofIllegal .xE3
    | 5#3 => .ofIllegal .xEB
    | 6#3 => .di
    | 7#3 => .ei
  | 4#3 =>
    match y with
    | 4#3 => .ofIllegal .xE4
    | 5#3 => .ofIllegal .xEC
    | 6#3 => .ofIllegal .xF4
    | 7#3 => .ofIllegal .xFC
    | _ => .ofCall (some cc) nn
  | 5#3 =>
    if q then
      match p with
      | 0#2 => .ofCall none nn
      | 1#2 => .ofIllegal .xDD
      | 2#2 => .ofIllegal .xED
      | 3#2 => .ofIllegal .xFD
    else .ofPush (.ofBits p)
  | 6#3 => .ofAluImm (.ofBits y) b2
  | 7#3 => .ofRst y.toFin

/-- The primary table: the slot's instruction, given the opcode and the two bytes after it (only those the
instruction's length covers are looked at; `d16` and `a16` are little-endian, R80, R81, R88). -/
def decodePrimary (op b2 b3 : Byte) : Instr :=
  let y := op.extractLsb' 3 3
  let o := Operand8.ofBits (op.extractLsb' 0 3)
  match op.extractLsb' 6 2 with
  | 0#2 => decodeX0 op b2 b3
  | 1#2 => .ofLd (.ofBits y) o
  | 2#2 => .ofAlu (.ofBits y) o
  | 3#2 => decodeX3 op b2 b3

/-- The two-table lookup: the page is switched by the opcode 0xCB alone (R83, R209). -/
def decodeBytes (op b2 b3 : Byte) : Instr :=
  if op = 0xCB#8 then decodeCb b2 else decodePrimary op b2 b3

/-! ### Lengths (R70) -/

/-- The length of an instruction whose first byte is `op`, in bytes: a function of the first byte alone, and of
`STOP_LENGTH` for STOP (R70, R212). -/
def lengthOf (sl : Config.StopLength) (op : Byte) : Nat :=
  let y := op.extractLsb' 3 3
  let z := op.extractLsb' 0 3
  let q := op.getLsbD 3
  if op = 0xCB#8 then 2
  else
    match op.extractLsb' 6 2 with
    | 0#2 =>
      match z with
      | 0#3 =>
        match y with
        | 0#3 => 1
        | 1#3 => 3
        | 2#3 => match sl with | .one => 1 | .two => 2
        | _ => 2
      | 1#3 => if q then 1 else 3
      | 6#3 => 2
      | _ => 1
    | 3#2 =>
      match z with
      | 0#3 => if op.getLsbD 5 then 2 else 1
      | 2#3 => if op.getLsbD 5 && !q then 1 else 3
      | 3#3 => if y = 0#3 then 3 else 1
      | 4#3 => if op.getLsbD 5 then 1 else 3
      | 5#3 => if op = 0xCD#8 then 3 else 1
      | 6#3 => 2
      | _ => 1
    | _ => 1

/-! ### Decoding a list of bytes -/

/-- Why a list of bytes is no instruction: it ends before the instruction does. No byte value is rejected
(R84). -/
inductive DecodeError where
  | truncated
  deriving DecidableEq, Repr

/-- The first instruction of a list of bytes and the bytes after it. -/
def decode (sl : Config.StopLength) : List Byte → Except DecodeError (Instr × List Byte)
  | [] => .error .truncated
  | op :: rest =>
    match lengthOf sl op, rest with
    | 1, rest => .ok (decodeBytes op 0 0, rest)
    | 2, b2 :: rest => .ok (decodeBytes op b2 0, rest)
    | 3, b2 :: b3 :: rest => .ok (decodeBytes op b2 b3, rest)
    | _, _ => .error .truncated

/-! ### The encoder (R70, R88, R89) -/

/-- The bytes of a CB-page instruction (FCB, R70). -/
def bytesCb (cb : Byte) : List Byte := [0xCB#8, cb]

/-- The bytes of a primary instruction with a 16-bit immediate (F3, R70): the low byte first (R56). -/
def bytes16 (op : Byte) (nn : Word) : List Byte := [op, loByte nn, hiByte nn]

/-- The bytes of an instruction, row by row from the opcode maps; the byte after STOP, which is fetched and
ignored under `STOP_LENGTH = 2`, is written as 0x00 (R212). -/
def encode (sl : Config.StopLength) : Instr → List Byte
  | .nop => [0x00#8]
  | .ld_BC_d16 nn => bytes16 0x01#8 nn
  | .ld_atBC_A => [0x02#8]
  | .inc_BC => [0x03#8]
  | .inc_B => [0x04#8]
  | .dec_B => [0x05#8]
  | .ld_B_d8 n => [0x06#8, n]
  | .rlca => [0x07#8]
  | .ld_atA16_SP nn => bytes16 0x08#8 nn
  | .add_HL_BC => [0x09#8]
  | .ld_A_atBC => [0x0A#8]
  | .dec_BC => [0x0B#8]
  | .inc_C => [0x0C#8]
  | .dec_C => [0x0D#8]
  | .ld_C_d8 n => [0x0E#8, n]
  | .rrca => [0x0F#8]
  | .stop => match sl with | .one => [0x10#8] | .two => [0x10#8, 0x00#8]
  | .ld_DE_d16 nn => bytes16 0x11#8 nn
  | .ld_atDE_A => [0x12#8]
  | .inc_DE => [0x13#8]
  | .inc_D => [0x14#8]
  | .dec_D => [0x15#8]
  | .ld_D_d8 n => [0x16#8, n]
  | .rla => [0x17#8]
  | .jr_e8 n => [0x18#8, n]
  | .add_HL_DE => [0x19#8]
  | .ld_A_atDE => [0x1A#8]
  | .dec_DE => [0x1B#8]
  | .inc_E => [0x1C#8]
  | .dec_E => [0x1D#8]
  | .ld_E_d8 n => [0x1E#8, n]
  | .rra => [0x1F#8]
  | .jr_NZ_e8 n => [0x20#8, n]
  | .ld_HL_d16 nn => bytes16 0x21#8 nn
  | .ld_atHLi_A => [0x22#8]
  | .inc_HL => [0x23#8]
  | .inc_H => [0x24#8]
  | .dec_H => [0x25#8]
  | .ld_H_d8 n => [0x26#8, n]
  | .daa => [0x27#8]
  | .jr_Z_e8 n => [0x28#8, n]
  | .add_HL_HL => [0x29#8]
  | .ld_A_atHLi => [0x2A#8]
  | .dec_HL => [0x2B#8]
  | .inc_L => [0x2C#8]
  | .dec_L => [0x2D#8]
  | .ld_L_d8 n => [0x2E#8, n]
  | .cpl => [0x2F#8]
  | .jr_NC_e8 n => [0x30#8, n]
  | .ld_SP_d16 nn => bytes16 0x31#8 nn
  | .ld_atHLd_A => [0x32#8]
  | .inc_SP => [0x33#8]
  | .inc_atHL => [0x34#8]
  | .dec_atHL => [0x35#8]
  | .ld_atHL_d8 n => [0x36#8, n]
  | .scf => [0x37#8]
  | .jr_C_e8 n => [0x38#8, n]
  | .add_HL_SP => [0x39#8]
  | .ld_A_atHLd => [0x3A#8]
  | .dec_SP => [0x3B#8]
  | .inc_A => [0x3C#8]
  | .dec_A => [0x3D#8]
  | .ld_A_d8 n => [0x3E#8, n]
  | .ccf => [0x3F#8]
  | .ld_B_B => [0x40#8]
  | .ld_B_C => [0x41#8]
  | .ld_B_D => [0x42#8]
  | .ld_B_E => [0x43#8]
  | .ld_B_H => [0x44#8]
  | .ld_B_L => [0x45#8]
  | .ld_B_atHL => [0x46#8]
  | .ld_B_A => [0x47#8]
  | .ld_C_B => [0x48#8]
  | .ld_C_C => [0x49#8]
  | .ld_C_D => [0x4A#8]
  | .ld_C_E => [0x4B#8]
  | .ld_C_H => [0x4C#8]
  | .ld_C_L => [0x4D#8]
  | .ld_C_atHL => [0x4E#8]
  | .ld_C_A => [0x4F#8]
  | .ld_D_B => [0x50#8]
  | .ld_D_C => [0x51#8]
  | .ld_D_D => [0x52#8]
  | .ld_D_E => [0x53#8]
  | .ld_D_H => [0x54#8]
  | .ld_D_L => [0x55#8]
  | .ld_D_atHL => [0x56#8]
  | .ld_D_A => [0x57#8]
  | .ld_E_B => [0x58#8]
  | .ld_E_C => [0x59#8]
  | .ld_E_D => [0x5A#8]
  | .ld_E_E => [0x5B#8]
  | .ld_E_H => [0x5C#8]
  | .ld_E_L => [0x5D#8]
  | .ld_E_atHL => [0x5E#8]
  | .ld_E_A => [0x5F#8]
  | .ld_H_B => [0x60#8]
  | .ld_H_C => [0x61#8]
  | .ld_H_D => [0x62#8]
  | .ld_H_E => [0x63#8]
  | .ld_H_H => [0x64#8]
  | .ld_H_L => [0x65#8]
  | .ld_H_atHL => [0x66#8]
  | .ld_H_A => [0x67#8]
  | .ld_L_B => [0x68#8]
  | .ld_L_C => [0x69#8]
  | .ld_L_D => [0x6A#8]
  | .ld_L_E => [0x6B#8]
  | .ld_L_H => [0x6C#8]
  | .ld_L_L => [0x6D#8]
  | .ld_L_atHL => [0x6E#8]
  | .ld_L_A => [0x6F#8]
  | .ld_atHL_B => [0x70#8]
  | .ld_atHL_C => [0x71#8]
  | .ld_atHL_D => [0x72#8]
  | .ld_atHL_E => [0x73#8]
  | .ld_atHL_H => [0x74#8]
  | .ld_atHL_L => [0x75#8]
  | .halt => [0x76#8]
  | .ld_atHL_A => [0x77#8]
  | .ld_A_B => [0x78#8]
  | .ld_A_C => [0x79#8]
  | .ld_A_D => [0x7A#8]
  | .ld_A_E => [0x7B#8]
  | .ld_A_H => [0x7C#8]
  | .ld_A_L => [0x7D#8]
  | .ld_A_atHL => [0x7E#8]
  | .ld_A_A => [0x7F#8]
  | .add_A_B => [0x80#8]
  | .add_A_C => [0x81#8]
  | .add_A_D => [0x82#8]
  | .add_A_E => [0x83#8]
  | .add_A_H => [0x84#8]
  | .add_A_L => [0x85#8]
  | .add_A_atHL => [0x86#8]
  | .add_A_A => [0x87#8]
  | .adc_A_B => [0x88#8]
  | .adc_A_C => [0x89#8]
  | .adc_A_D => [0x8A#8]
  | .adc_A_E => [0x8B#8]
  | .adc_A_H => [0x8C#8]
  | .adc_A_L => [0x8D#8]
  | .adc_A_atHL => [0x8E#8]
  | .adc_A_A => [0x8F#8]
  | .sub_B => [0x90#8]
  | .sub_C => [0x91#8]
  | .sub_D => [0x92#8]
  | .sub_E => [0x93#8]
  | .sub_H => [0x94#8]
  | .sub_L => [0x95#8]
  | .sub_atHL => [0x96#8]
  | .sub_A => [0x97#8]
  | .sbc_A_B => [0x98#8]
  | .sbc_A_C => [0x99#8]
  | .sbc_A_D => [0x9A#8]
  | .sbc_A_E => [0x9B#8]
  | .sbc_A_H => [0x9C#8]
  | .sbc_A_L => [0x9D#8]
  | .sbc_A_atHL => [0x9E#8]
  | .sbc_A_A => [0x9F#8]
  | .and_B => [0xA0#8]
  | .and_C => [0xA1#8]
  | .and_D => [0xA2#8]
  | .and_E => [0xA3#8]
  | .and_H => [0xA4#8]
  | .and_L => [0xA5#8]
  | .and_atHL => [0xA6#8]
  | .and_A => [0xA7#8]
  | .xor_B => [0xA8#8]
  | .xor_C => [0xA9#8]
  | .xor_D => [0xAA#8]
  | .xor_E => [0xAB#8]
  | .xor_H => [0xAC#8]
  | .xor_L => [0xAD#8]
  | .xor_atHL => [0xAE#8]
  | .xor_A => [0xAF#8]
  | .or_B => [0xB0#8]
  | .or_C => [0xB1#8]
  | .or_D => [0xB2#8]
  | .or_E => [0xB3#8]
  | .or_H => [0xB4#8]
  | .or_L => [0xB5#8]
  | .or_atHL => [0xB6#8]
  | .or_A => [0xB7#8]
  | .cp_B => [0xB8#8]
  | .cp_C => [0xB9#8]
  | .cp_D => [0xBA#8]
  | .cp_E => [0xBB#8]
  | .cp_H => [0xBC#8]
  | .cp_L => [0xBD#8]
  | .cp_atHL => [0xBE#8]
  | .cp_A => [0xBF#8]
  | .ret_NZ => [0xC0#8]
  | .pop_BC => [0xC1#8]
  | .jp_NZ_a16 nn => bytes16 0xC2#8 nn
  | .jp_a16 nn => bytes16 0xC3#8 nn
  | .call_NZ_a16 nn => bytes16 0xC4#8 nn
  | .push_BC => [0xC5#8]
  | .add_A_d8 n => [0xC6#8, n]
  | .rst_00 => [0xC7#8]
  | .ret_Z => [0xC8#8]
  | .ret => [0xC9#8]
  | .jp_Z_a16 nn => bytes16 0xCA#8 nn
  | .prefixCb cb => bytesCb cb
  | .call_Z_a16 nn => bytes16 0xCC#8 nn
  | .call_a16 nn => bytes16 0xCD#8 nn
  | .adc_A_d8 n => [0xCE#8, n]
  | .rst_08 => [0xCF#8]
  | .ret_NC => [0xD0#8]
  | .pop_DE => [0xD1#8]
  | .jp_NC_a16 nn => bytes16 0xD2#8 nn
  | .illegal_D3 => [0xD3#8]
  | .call_NC_a16 nn => bytes16 0xD4#8 nn
  | .push_DE => [0xD5#8]
  | .sub_d8 n => [0xD6#8, n]
  | .rst_10 => [0xD7#8]
  | .ret_C => [0xD8#8]
  | .reti => [0xD9#8]
  | .jp_C_a16 nn => bytes16 0xDA#8 nn
  | .illegal_DB => [0xDB#8]
  | .call_C_a16 nn => bytes16 0xDC#8 nn
  | .illegal_DD => [0xDD#8]
  | .sbc_A_d8 n => [0xDE#8, n]
  | .rst_18 => [0xDF#8]
  | .ldh_atA8_A n => [0xE0#8, n]
  | .pop_HL => [0xE1#8]
  | .ld_atC_A => [0xE2#8]
  | .illegal_E3 => [0xE3#8]
  | .illegal_E4 => [0xE4#8]
  | .push_HL => [0xE5#8]
  | .and_d8 n => [0xE6#8, n]
  | .rst_20 => [0xE7#8]
  | .add_SP_e8 n => [0xE8#8, n]
  | .jp_HL => [0xE9#8]
  | .ld_atA16_A nn => bytes16 0xEA#8 nn
  | .illegal_EB => [0xEB#8]
  | .illegal_EC => [0xEC#8]
  | .illegal_ED => [0xED#8]
  | .xor_d8 n => [0xEE#8, n]
  | .rst_28 => [0xEF#8]
  | .ldh_A_atA8 n => [0xF0#8, n]
  | .pop_AF => [0xF1#8]
  | .ld_A_atC => [0xF2#8]
  | .di => [0xF3#8]
  | .illegal_F4 => [0xF4#8]
  | .push_AF => [0xF5#8]
  | .or_d8 n => [0xF6#8, n]
  | .rst_30 => [0xF7#8]
  | .ld_HL_SPe8 n => [0xF8#8, n]
  | .ld_SP_HL => [0xF9#8]
  | .ld_A_atA16 nn => bytes16 0xFA#8 nn
  | .ei => [0xFB#8]
  | .illegal_FC => [0xFC#8]
  | .illegal_FD => [0xFD#8]
  | .cp_d8 n => [0xFE#8, n]
  | .rst_38 => [0xFF#8]
  | .rlc_B => bytesCb 0x00#8
  | .rlc_C => bytesCb 0x01#8
  | .rlc_D => bytesCb 0x02#8
  | .rlc_E => bytesCb 0x03#8
  | .rlc_H => bytesCb 0x04#8
  | .rlc_L => bytesCb 0x05#8
  | .rlc_atHL => bytesCb 0x06#8
  | .rlc_A => bytesCb 0x07#8
  | .rrc_B => bytesCb 0x08#8
  | .rrc_C => bytesCb 0x09#8
  | .rrc_D => bytesCb 0x0A#8
  | .rrc_E => bytesCb 0x0B#8
  | .rrc_H => bytesCb 0x0C#8
  | .rrc_L => bytesCb 0x0D#8
  | .rrc_atHL => bytesCb 0x0E#8
  | .rrc_A => bytesCb 0x0F#8
  | .rl_B => bytesCb 0x10#8
  | .rl_C => bytesCb 0x11#8
  | .rl_D => bytesCb 0x12#8
  | .rl_E => bytesCb 0x13#8
  | .rl_H => bytesCb 0x14#8
  | .rl_L => bytesCb 0x15#8
  | .rl_atHL => bytesCb 0x16#8
  | .rl_A => bytesCb 0x17#8
  | .rr_B => bytesCb 0x18#8
  | .rr_C => bytesCb 0x19#8
  | .rr_D => bytesCb 0x1A#8
  | .rr_E => bytesCb 0x1B#8
  | .rr_H => bytesCb 0x1C#8
  | .rr_L => bytesCb 0x1D#8
  | .rr_atHL => bytesCb 0x1E#8
  | .rr_A => bytesCb 0x1F#8
  | .sla_B => bytesCb 0x20#8
  | .sla_C => bytesCb 0x21#8
  | .sla_D => bytesCb 0x22#8
  | .sla_E => bytesCb 0x23#8
  | .sla_H => bytesCb 0x24#8
  | .sla_L => bytesCb 0x25#8
  | .sla_atHL => bytesCb 0x26#8
  | .sla_A => bytesCb 0x27#8
  | .sra_B => bytesCb 0x28#8
  | .sra_C => bytesCb 0x29#8
  | .sra_D => bytesCb 0x2A#8
  | .sra_E => bytesCb 0x2B#8
  | .sra_H => bytesCb 0x2C#8
  | .sra_L => bytesCb 0x2D#8
  | .sra_atHL => bytesCb 0x2E#8
  | .sra_A => bytesCb 0x2F#8
  | .swap_B => bytesCb 0x30#8
  | .swap_C => bytesCb 0x31#8
  | .swap_D => bytesCb 0x32#8
  | .swap_E => bytesCb 0x33#8
  | .swap_H => bytesCb 0x34#8
  | .swap_L => bytesCb 0x35#8
  | .swap_atHL => bytesCb 0x36#8
  | .swap_A => bytesCb 0x37#8
  | .srl_B => bytesCb 0x38#8
  | .srl_C => bytesCb 0x39#8
  | .srl_D => bytesCb 0x3A#8
  | .srl_E => bytesCb 0x3B#8
  | .srl_H => bytesCb 0x3C#8
  | .srl_L => bytesCb 0x3D#8
  | .srl_atHL => bytesCb 0x3E#8
  | .srl_A => bytesCb 0x3F#8
  | .bit_0_B => bytesCb 0x40#8
  | .bit_0_C => bytesCb 0x41#8
  | .bit_0_D => bytesCb 0x42#8
  | .bit_0_E => bytesCb 0x43#8
  | .bit_0_H => bytesCb 0x44#8
  | .bit_0_L => bytesCb 0x45#8
  | .bit_0_atHL => bytesCb 0x46#8
  | .bit_0_A => bytesCb 0x47#8
  | .bit_1_B => bytesCb 0x48#8
  | .bit_1_C => bytesCb 0x49#8
  | .bit_1_D => bytesCb 0x4A#8
  | .bit_1_E => bytesCb 0x4B#8
  | .bit_1_H => bytesCb 0x4C#8
  | .bit_1_L => bytesCb 0x4D#8
  | .bit_1_atHL => bytesCb 0x4E#8
  | .bit_1_A => bytesCb 0x4F#8
  | .bit_2_B => bytesCb 0x50#8
  | .bit_2_C => bytesCb 0x51#8
  | .bit_2_D => bytesCb 0x52#8
  | .bit_2_E => bytesCb 0x53#8
  | .bit_2_H => bytesCb 0x54#8
  | .bit_2_L => bytesCb 0x55#8
  | .bit_2_atHL => bytesCb 0x56#8
  | .bit_2_A => bytesCb 0x57#8
  | .bit_3_B => bytesCb 0x58#8
  | .bit_3_C => bytesCb 0x59#8
  | .bit_3_D => bytesCb 0x5A#8
  | .bit_3_E => bytesCb 0x5B#8
  | .bit_3_H => bytesCb 0x5C#8
  | .bit_3_L => bytesCb 0x5D#8
  | .bit_3_atHL => bytesCb 0x5E#8
  | .bit_3_A => bytesCb 0x5F#8
  | .bit_4_B => bytesCb 0x60#8
  | .bit_4_C => bytesCb 0x61#8
  | .bit_4_D => bytesCb 0x62#8
  | .bit_4_E => bytesCb 0x63#8
  | .bit_4_H => bytesCb 0x64#8
  | .bit_4_L => bytesCb 0x65#8
  | .bit_4_atHL => bytesCb 0x66#8
  | .bit_4_A => bytesCb 0x67#8
  | .bit_5_B => bytesCb 0x68#8
  | .bit_5_C => bytesCb 0x69#8
  | .bit_5_D => bytesCb 0x6A#8
  | .bit_5_E => bytesCb 0x6B#8
  | .bit_5_H => bytesCb 0x6C#8
  | .bit_5_L => bytesCb 0x6D#8
  | .bit_5_atHL => bytesCb 0x6E#8
  | .bit_5_A => bytesCb 0x6F#8
  | .bit_6_B => bytesCb 0x70#8
  | .bit_6_C => bytesCb 0x71#8
  | .bit_6_D => bytesCb 0x72#8
  | .bit_6_E => bytesCb 0x73#8
  | .bit_6_H => bytesCb 0x74#8
  | .bit_6_L => bytesCb 0x75#8
  | .bit_6_atHL => bytesCb 0x76#8
  | .bit_6_A => bytesCb 0x77#8
  | .bit_7_B => bytesCb 0x78#8
  | .bit_7_C => bytesCb 0x79#8
  | .bit_7_D => bytesCb 0x7A#8
  | .bit_7_E => bytesCb 0x7B#8
  | .bit_7_H => bytesCb 0x7C#8
  | .bit_7_L => bytesCb 0x7D#8
  | .bit_7_atHL => bytesCb 0x7E#8
  | .bit_7_A => bytesCb 0x7F#8
  | .res_0_B => bytesCb 0x80#8
  | .res_0_C => bytesCb 0x81#8
  | .res_0_D => bytesCb 0x82#8
  | .res_0_E => bytesCb 0x83#8
  | .res_0_H => bytesCb 0x84#8
  | .res_0_L => bytesCb 0x85#8
  | .res_0_atHL => bytesCb 0x86#8
  | .res_0_A => bytesCb 0x87#8
  | .res_1_B => bytesCb 0x88#8
  | .res_1_C => bytesCb 0x89#8
  | .res_1_D => bytesCb 0x8A#8
  | .res_1_E => bytesCb 0x8B#8
  | .res_1_H => bytesCb 0x8C#8
  | .res_1_L => bytesCb 0x8D#8
  | .res_1_atHL => bytesCb 0x8E#8
  | .res_1_A => bytesCb 0x8F#8
  | .res_2_B => bytesCb 0x90#8
  | .res_2_C => bytesCb 0x91#8
  | .res_2_D => bytesCb 0x92#8
  | .res_2_E => bytesCb 0x93#8
  | .res_2_H => bytesCb 0x94#8
  | .res_2_L => bytesCb 0x95#8
  | .res_2_atHL => bytesCb 0x96#8
  | .res_2_A => bytesCb 0x97#8
  | .res_3_B => bytesCb 0x98#8
  | .res_3_C => bytesCb 0x99#8
  | .res_3_D => bytesCb 0x9A#8
  | .res_3_E => bytesCb 0x9B#8
  | .res_3_H => bytesCb 0x9C#8
  | .res_3_L => bytesCb 0x9D#8
  | .res_3_atHL => bytesCb 0x9E#8
  | .res_3_A => bytesCb 0x9F#8
  | .res_4_B => bytesCb 0xA0#8
  | .res_4_C => bytesCb 0xA1#8
  | .res_4_D => bytesCb 0xA2#8
  | .res_4_E => bytesCb 0xA3#8
  | .res_4_H => bytesCb 0xA4#8
  | .res_4_L => bytesCb 0xA5#8
  | .res_4_atHL => bytesCb 0xA6#8
  | .res_4_A => bytesCb 0xA7#8
  | .res_5_B => bytesCb 0xA8#8
  | .res_5_C => bytesCb 0xA9#8
  | .res_5_D => bytesCb 0xAA#8
  | .res_5_E => bytesCb 0xAB#8
  | .res_5_H => bytesCb 0xAC#8
  | .res_5_L => bytesCb 0xAD#8
  | .res_5_atHL => bytesCb 0xAE#8
  | .res_5_A => bytesCb 0xAF#8
  | .res_6_B => bytesCb 0xB0#8
  | .res_6_C => bytesCb 0xB1#8
  | .res_6_D => bytesCb 0xB2#8
  | .res_6_E => bytesCb 0xB3#8
  | .res_6_H => bytesCb 0xB4#8
  | .res_6_L => bytesCb 0xB5#8
  | .res_6_atHL => bytesCb 0xB6#8
  | .res_6_A => bytesCb 0xB7#8
  | .res_7_B => bytesCb 0xB8#8
  | .res_7_C => bytesCb 0xB9#8
  | .res_7_D => bytesCb 0xBA#8
  | .res_7_E => bytesCb 0xBB#8
  | .res_7_H => bytesCb 0xBC#8
  | .res_7_L => bytesCb 0xBD#8
  | .res_7_atHL => bytesCb 0xBE#8
  | .res_7_A => bytesCb 0xBF#8
  | .set_0_B => bytesCb 0xC0#8
  | .set_0_C => bytesCb 0xC1#8
  | .set_0_D => bytesCb 0xC2#8
  | .set_0_E => bytesCb 0xC3#8
  | .set_0_H => bytesCb 0xC4#8
  | .set_0_L => bytesCb 0xC5#8
  | .set_0_atHL => bytesCb 0xC6#8
  | .set_0_A => bytesCb 0xC7#8
  | .set_1_B => bytesCb 0xC8#8
  | .set_1_C => bytesCb 0xC9#8
  | .set_1_D => bytesCb 0xCA#8
  | .set_1_E => bytesCb 0xCB#8
  | .set_1_H => bytesCb 0xCC#8
  | .set_1_L => bytesCb 0xCD#8
  | .set_1_atHL => bytesCb 0xCE#8
  | .set_1_A => bytesCb 0xCF#8
  | .set_2_B => bytesCb 0xD0#8
  | .set_2_C => bytesCb 0xD1#8
  | .set_2_D => bytesCb 0xD2#8
  | .set_2_E => bytesCb 0xD3#8
  | .set_2_H => bytesCb 0xD4#8
  | .set_2_L => bytesCb 0xD5#8
  | .set_2_atHL => bytesCb 0xD6#8
  | .set_2_A => bytesCb 0xD7#8
  | .set_3_B => bytesCb 0xD8#8
  | .set_3_C => bytesCb 0xD9#8
  | .set_3_D => bytesCb 0xDA#8
  | .set_3_E => bytesCb 0xDB#8
  | .set_3_H => bytesCb 0xDC#8
  | .set_3_L => bytesCb 0xDD#8
  | .set_3_atHL => bytesCb 0xDE#8
  | .set_3_A => bytesCb 0xDF#8
  | .set_4_B => bytesCb 0xE0#8
  | .set_4_C => bytesCb 0xE1#8
  | .set_4_D => bytesCb 0xE2#8
  | .set_4_E => bytesCb 0xE3#8
  | .set_4_H => bytesCb 0xE4#8
  | .set_4_L => bytesCb 0xE5#8
  | .set_4_atHL => bytesCb 0xE6#8
  | .set_4_A => bytesCb 0xE7#8
  | .set_5_B => bytesCb 0xE8#8
  | .set_5_C => bytesCb 0xE9#8
  | .set_5_D => bytesCb 0xEA#8
  | .set_5_E => bytesCb 0xEB#8
  | .set_5_H => bytesCb 0xEC#8
  | .set_5_L => bytesCb 0xED#8
  | .set_5_atHL => bytesCb 0xEE#8
  | .set_5_A => bytesCb 0xEF#8
  | .set_6_B => bytesCb 0xF0#8
  | .set_6_C => bytesCb 0xF1#8
  | .set_6_D => bytesCb 0xF2#8
  | .set_6_E => bytesCb 0xF3#8
  | .set_6_H => bytesCb 0xF4#8
  | .set_6_L => bytesCb 0xF5#8
  | .set_6_atHL => bytesCb 0xF6#8
  | .set_6_A => bytesCb 0xF7#8
  | .set_7_B => bytesCb 0xF8#8
  | .set_7_C => bytesCb 0xF9#8
  | .set_7_D => bytesCb 0xFA#8
  | .set_7_E => bytesCb 0xFB#8
  | .set_7_H => bytesCb 0xFC#8
  | .set_7_L => bytesCb 0xFD#8
  | .set_7_atHL => bytesCb 0xFE#8
  | .set_7_A => bytesCb 0xFF#8

/-- How many bytes the instruction takes (R70). -/
def Instr.length (sl : Config.StopLength) (i : Instr) : Nat := (encode sl i).length

/-! ### The opcode table's own numbering -/

/-- The bytes of an instruction whose bits are `w` as spec/opcode_table.json numbers them, three bytes in all
(the longest instruction), zeros after the row's own. The table writes a CB-page row as one 16-bit number whose
high byte is the prefix 0xCB (its `match` of RLC B is 0xCB00), so there the byte of bits 15:8 is the first one in
memory; every other row gives only its first byte, bits 7:0 (DEDUCED, assumption 4). -/
def tableBytes (nbits w : Nat) : List Byte :=
  let v := w % 2 ^ nbits
  let b0 := BitVec.ofNat 8 v
  let b1 := BitVec.ofNat 8 (v / 2 ^ 8)
  let b2 := BitVec.ofNat 8 (v / 2 ^ 16)
  if nbits = 16 && b1 == 0xCB#8 then [b1, b0, 0#8] else [b0, b1, b2]

/-- The instruction the decoder reads from an instruction of the table, under the default `STOP_LENGTH`. -/
def decodeTableWord (nbits w : Nat) : Option Instr :=
  match decode Config.defaultParams.stopLength (tableBytes nbits w) with
  | .ok (i, _) => some i
  | .error _ => none

end Sys2Proof
end

