-- ==== Sys2Proof/Machine/State.lean ====
section
/-! DEFINITION. The machine's state as plain data, why a step can stop, and the state after reset
(10_state.md, 60_exceptions.md, 70_reset_and_hazards.md). -/

namespace Sys2Proof.Machine

/-- The sideband event a dispatch reports to the outer loop (R44, R225). -/
inductive Event where
  | none | halt | stop | di | ei | reti
  deriving DecidableEq, Repr

/-- Why the machine or an accessor stops. No instruction raises any of these (R216, R218). -/
inductive Fault where
  /-- Raised by `step` under `ILLEGAL_OPCODE_MODE = lock` once an illegal slot has been dispatched: every later
  dispatch is STUCK and changes nothing (R45, R207). Safe: the spec says so. -/
  | stuck
  /-- Raised by the flag accessors on a flag identifier outside Carry, HalfCarry, Subtract, Zero (R32, R217).
  Safe: the spec says so; no instruction reaches it. -/
  | unknownFlag
  /-- Raised by `auxiliary` and `setAuxiliary` on a register that is not B, C, D, E, H or L (R20, R217).
  Safe: the spec says so; no instruction reaches it. -/
  | unknownAuxiliaryRegister
  /-- Raised by `paired` and `setPaired` on a register that is not BC, DE, HL or AF (R21, R22, R217).
  Safe: the spec says so; no instruction reaches it. -/
  | unknownPairedRegister
  /-- Raised by `increment` and `incrementBy` on F and AF (R26, R27, R217).
  Safe: the spec says so; no instruction reaches it. -/
  | flagsNotIncrementable
  /-- Raised by `decrement` and `decrementBy` on F and AF (R26, R27, R217).
  Safe: the spec says so; no instruction reaches it. -/
  | flagsNotDecrementable
  deriving DecidableEq, Repr

/-- Why an instruction has no meaning. Every one of the 512 slots has its meaning, so no arm uses it. -/
inductive Refusal where
  /-- The instruction is not modelled yet: raised by no arm of `exec` (safe: the machine would stop). -/
  | notModelled (mnemonic : String)
  deriving DecidableEq, Repr

/-- The memory behind a flat bus (R55): the bytes that differ from `Config.unwrittenByte`, by address, addresses
strictly rising. -/
abbrev Memory := List Host.Cell

/-- Everything the spec gives the machine (R46), the memory behind the bus (R49), and, as plain data beside it,
the parameters a dispatch reads, what the last dispatch returned, and the events of an external bus. -/
structure State where
  /-- The accumulator (R16). -/
  a : Byte
  /-- The flags: Z N H C in bits 7 to 4, bits 3 to 0 always 0 (R30, R31). -/
  f : Byte
  b : Byte
  c : Byte
  d : Byte
  e : Byte
  h : Byte
  l : Byte
  /-- The stack pointer (R38). -/
  sp : Word
  /-- The program counter (R37). -/
  pc : Word
  /-- M-cycles (R39). -/
  fine : Cycles
  /-- T-cycles, always four times `fine` (R39). -/
  coarse : Cycles
  /-- The lock bit, which exists under `ILLEGAL_OPCODE_MODE = lock` only (R45). -/
  locked : Bool
  /-- The memory behind a flat bus (R55). -/
  mem : Memory
  /-- The parameters; no step changes them (R7). -/
  params : Config.Params
  /-- The model's own: the sideband event the last dispatch returned (R44, R207; assumption 6). -/
  event : Event
  /-- The model's own: the slot whose descriptor the last dispatch returned (R44, R207; assumption 6). -/
  executed : Option Slot
  /-- The model's own: the accesses of an external bus, the newest first (R60; assumption 3), which the free values
  of `Config.externalRead` are applied to. -/
  busLog : List BusEvent
  deriving DecidableEq, Repr

/-- The machine right after reset (R48, R233): the clock 0, F[3:0] 0, PC at `RESET_PC`, not locked; the other
registers at the draw of `RESET_REGS` that the model names (DESIGN CHOICE, unsafe, assumption 1); memory with
nothing listed (assumption 2). -/
def State.reset : State where
  a := Config.resetRegs.a
  f := Config.resetRegs.flags ++ 0#4
  b := Config.resetRegs.b
  c := Config.resetRegs.c
  d := Config.resetRegs.d
  e := Config.resetRegs.e
  h := Config.resetRegs.h
  l := Config.resetRegs.l
  sp := Config.resetRegs.sp
  pc := Config.resetPc
  fine := 0
  coarse := 0
  locked := false
  mem := []
  params := Config.defaultParams
  event := .none
  executed := none
  busLog := []

/-- What every meaning answers. -/
abbrev Result := Host.Outcome State Fault Refusal

end Sys2Proof.Machine
end

