-- ==== Sys2Proof/Machine/Flags.lean ====
section
/-! DEFINITION. The flags register (10_state.md section 2) and every flag computation of the ALU and the shifter
(40_alu8.md section 1, 41_alu16.md section 1, 42_rotate_shift.md section 1). -/

namespace Sys2Proof.Machine

/-! ### The flags register -/

/-- The flag identifiers (R32). -/
inductive FlagId where
  | carry | halfCarry | subtract | zero
  deriving DecidableEq, Repr

/-- The bit of F that holds the flag (R30). -/
def FlagId.position : FlagId → Nat
  | .carry => 4
  | .halfCarry => 5
  | .subtract => 6
  | .zero => 7

/-- F with one bit written (R33). -/
def putBit (f : Byte) (k : Nat) (v : Bool) : Byte :=
  if v then f ||| (1#8 <<< k) else f &&& ~~~(1#8 <<< k)

/-- `is_set(flag)` (R33). -/
def State.flag (s : State) (k : FlagId) : Bool := s.f.getLsbD k.position

/-- `put(flag, v)`: only the flag's own bit changes (R33). -/
def State.putFlag (s : State) (k : FlagId) (v : Bool) : State := { s with f := putBit s.f k.position v }

/-- `set_value`: the whole of F, its low four bits masked to zero (R31, R34). -/
def State.setFlagsValue (s : State) (v : Byte) : State := { s with f := v &&& 0xF0#8 }

/-- The four flags of a result. -/
structure FlagSet where
  z : Bool
  n : Bool
  h : Bool
  c : Bool
  deriving DecidableEq, Repr

/-- The value of F that shows these flags: Z N H C in bits 7 to 4, bits 3 to 0 zero (R30, R31). -/
def FlagSet.toByte (fl : FlagSet) : Byte :=
  BitVec.ofBool fl.z ++ BitVec.ofBool fl.n ++ BitVec.ofBool fl.h ++ BitVec.ofBool fl.c ++ 0#4

/-- `F <- fl`, all four flags written (R31, R95). -/
def State.writeFlags (s : State) (fl : FlagSet) : State := s.setFlagsValue fl.toByte

/-- `F.Z, F.N, F.H <- fl`: C is kept (R93 to R95). -/
def State.writeZNH (s : State) (fl : FlagSet) : State :=
  ((s.putFlag .zero fl.z).putFlag .subtract fl.n).putFlag .halfCarry fl.h

/-- `F.N, F.H, F.C <- fl`: Z is kept (R128, R130). -/
def State.writeNHC (s : State) (fl : FlagSet) : State :=
  ((s.putFlag .subtract fl.n).putFlag .halfCarry fl.h).putFlag .carry fl.c

/-! ### 8-bit arithmetic and logic -/

/-- `add8` with carry-in `cin` (R90). -/
def add8 (a b : Byte) (cin : Bool) : Byte × FlagSet :=
  let r := a + b + (BitVec.ofBool cin).setWidth 8
  let c := if cin then decide (0xFF#8 - b ≤ a) else decide (0xFF#8 - b < a)
  let h := (a ^^^ b ^^^ r).getLsbD 4
  (r, ⟨r == 0#8, false, h, c⟩)

/-- `sub8` with borrow-in `bin`: C and H have borrow polarity (R91, D10). -/
def sub8 (a b : Byte) (bin : Bool) : Byte × FlagSet :=
  let r := a - b - (BitVec.ofBool bin).setWidth 8
  let c := decide (a.toNat < b.toNat + bin.toNat)
  let h := decide ((a &&& 0x0F#8).toNat < (b &&& 0x0F#8).toNat + bin.toNat)
  (r, ⟨r == 0#8, true, h, c⟩)

/-- `and8` (R92). -/
def and8 (a b : Byte) : Byte × FlagSet := (a &&& b, ⟨a &&& b == 0#8, false, true, false⟩)

/-- `or8` (R92). -/
def or8 (a b : Byte) : Byte × FlagSet := (a ||| b, ⟨a ||| b == 0#8, false, false, false⟩)

/-- `xor8` (R92). -/
def xor8 (a b : Byte) : Byte × FlagSet := (a ^^^ b, ⟨a ^^^ b == 0#8, false, false, false⟩)

/-- `inc8` (R93); its C is not written. -/
def inc8 (v : Byte) : Byte × FlagSet :=
  let r := v + 1#8
  (r, ⟨r == 0#8, false, (v ^^^ 1#8 ^^^ r).getLsbD 4, false⟩)

/-- `dec8` (R94, D10); its C is not written. -/
def dec8 (v : Byte) : Byte × FlagSet :=
  let r := v - 1#8
  (r, ⟨r == 0#8, true, v &&& 0x0F#8 == 0#8, false⟩)

/-- What an ALU operation computes from A, its operand and the carry flag (R78, R90 to R92). -/
def aluResult (op : AluOp) (a b : Byte) (carry : Bool) : Byte × FlagSet :=
  match op with
  | .add => add8 a b false
  | .adc => add8 a b carry
  | .sub => sub8 a b false
  | .sbc => sub8 a b carry
  | .and => and8 a b
  | .xor => xor8 a b
  | .or => or8 a b
  | .cp => sub8 a b false

/-- DAA's correction of A and the carry it leaves, from A, N, H and C (R124, D15). -/
def daaResult (a : Byte) (n h c : Bool) : Byte × Bool :=
  if n then
    let a1 := if c then a - 0x60#8 else a
    (if h then a1 - 0x06#8 else a1, c)
  else
    let high := c || decide (0x99#8 < a)
    let low := h || decide (0x09#8 < a &&& 0x0F#8)
    let a1 := if high then a + 0x60#8 else a
    (if low then a1 + 0x06#8 else a1, high)

/-! ### 16-bit arithmetic -/

/-- `add16`; its Z is not written (R128, D11). -/
def add16 (a b : Word) : Word × FlagSet :=
  let r := a + b
  (r, ⟨false, false, (a ^^^ b ^^^ r).getLsbD 12, decide (0xFFFF#16 - b < a)⟩)

/-- `addsp`: H and C are the carries out of bits 3 and 7 of the low-byte addition, Z is 0 (R129, D12). -/
def addSp (sp : Word) (e : Byte) : Word × FlagSet :=
  let x := sext16 e
  let r := sp + x
  (r, ⟨false, false, (sp ^^^ x ^^^ r).getLsbD 4, (sp ^^^ x ^^^ r).getLsbD 8⟩)

/-! ### Rotates, shifts and swap: the result and the bit shifted out -/

/-- `rlc` (R135). -/
def rlc (v : Byte) : Byte × Bool := (v <<< 1 ||| (BitVec.ofBool (v.getLsbD 7)).setWidth 8, v.getLsbD 7)

/-- `rrc` (R135). -/
def rrc (v : Byte) : Byte × Bool :=
  (v >>> 1 ||| (BitVec.ofBool (v.getLsbD 0)).setWidth 8 <<< 7, v.getLsbD 0)

/-- `rl`: the carry before the instruction comes in at bit 0 (R135). -/
def rl (v : Byte) (cin : Bool) : Byte × Bool := (v <<< 1 ||| (BitVec.ofBool cin).setWidth 8, v.getLsbD 7)

/-- `rr`: the carry before the instruction comes in at bit 7 (R135). -/
def rr (v : Byte) (cin : Bool) : Byte × Bool := (v >>> 1 ||| (BitVec.ofBool cin).setWidth 8 <<< 7, v.getLsbD 0)

/-- `sla` (R136). -/
def sla (v : Byte) : Byte × Bool := (v <<< 1, v.getLsbD 7)

/-- `sra`: bit 7 is kept (R136). -/
def sra (v : Byte) : Byte × Bool := (v >>> 1 ||| v &&& 0x80#8, v.getLsbD 0)

/-- `srl` (R136). -/
def srl (v : Byte) : Byte × Bool := (v >>> 1, v.getLsbD 0)

/-- `swap`: the two 4-bit halves exchanged; it shifts nothing out (R137). -/
def swap (v : Byte) : Byte := v <<< 4 ||| v >>> 4

/-- A CB-page rotate, shift or swap with its flags: Z from the result, N and H 0, C the bit shifted out, 0 for
SWAP (R138). -/
def rotResult (op : RotOp) (v : Byte) (carry : Bool) : Byte × FlagSet :=
  let (r, c) :=
    match op with
    | .rlc => rlc v
    | .rrc => rrc v
    | .rl => rl v carry
    | .rr => rr v carry
    | .sla => sla v
    | .sra => sra v
    | .swap => (swap v, false)
    | .srl => srl v
  (r, ⟨r == 0#8, false, false, c⟩)

/-- An accumulator rotate with its flags: Z is 0 whatever the result (R138). -/
def accRotResult (op : AccRot) (v : Byte) (carry : Bool) : Byte × FlagSet :=
  let (r, c) :=
    match op with
    | .rlca => rlc v
    | .rrca => rrc v
    | .rla => rl v carry
    | .rra => rr v carry
  (r, ⟨false, false, false, c⟩)

/-! ### The condition unit -/

/-- `cond(c)` (R165): it reads Z or C and nothing else. -/
def State.cond (s : State) : Cond → Bool
  | .nz => !s.flag .zero
  | .z => s.flag .zero
  | .nc => !s.flag .carry
  | .c => s.flag .carry

end Sys2Proof.Machine
end

