-- ==== Sys2Proof/Machine/Memory.lean ====
section
/-! DEFINITION. The flat memory's operations on its canonical form, and the four-operation bus contract
(20_memory.md). -/

namespace Sys2Proof.Machine

/-! ### The array behind a flat bus (R55) -/

/-- The last value written to the address, or `Config.unwrittenByte` where none was (R55). -/
def Memory.read : Memory → Nat → Byte
  | [], _ => Config.unwrittenByte
  | (k, v) :: rest, x => if k = x then v else Memory.read rest x

/-- The list with `v` at address `x` before all of `rest`, unless `v` is what an unlisted address reads as. -/
def Memory.put (x : Nat) (v : Byte) (rest : Memory) : Memory :=
  if v = Config.unwrittenByte then rest else (x, v) :: rest

/-- Write one byte, keeping the list sorted and free of entries that say what an unlisted address says. -/
def Memory.write : Memory → Nat → Byte → Memory
  | [], x, v => Memory.put x v []
  | (k, u) :: rest, x, v =>
    if x < k then Memory.put x v ((k, u) :: rest)
    else if x = k then Memory.put x v rest
    else (k, u) :: Memory.write rest x v

/-- The canonical form from address `low` on. -/
def Memory.wfFrom : Nat → Memory → Bool
  | _, [] => true
  | low, (k, v) :: rest =>
    decide (low ≤ k) && decide (k < 65536) && (v != Config.unwrittenByte) && Memory.wfFrom (k + 1) rest

/-- The canonical form: addresses strictly rising and below 65,536 (R49), no entry that an unlisted address
would read as. -/
def Memory.wf (m : Memory) : Bool := Memory.wfFrom 0 m

/-! ### The bus (R50 to R55) -/

/-- `load_byte` (R50): under `BUS = flat` the byte of the array, and nothing changes (R62); under
`BUS = external` a free value, and the access is an event (R55, R60). -/
def State.load (s : State) (x : Word) : Byte × State :=
  match s.params.bus with
  | .flat => (s.mem.read x.toNat, s)
  | .external =>
    let v := Config.externalRead s.busLog x
    (v, { s with busLog := .read x v :: s.busLog })

/-- `store_byte` (R51): under `BUS = flat` every write succeeds (R55); under `BUS = external` it is an event. -/
def State.store (s : State) (x : Word) (v : Byte) : State :=
  match s.params.bus with
  | .flat => { s with mem := s.mem.write x.toNat v }
  | .external => { s with busLog := .write x v :: s.busLog }

/-- `load_word` (R52): little-endian, the second byte at the next address mod 2^16 (R54). -/
def State.loadWord (s : State) (x : Word) : Word × State :=
  let (lo, s1) := s.load x
  let (hi, s2) := s1.load (x + 1#16)
  (joinBytes hi lo, s2)

/-- `store_word` (R53): little-endian, the low byte first, the second byte at the next address mod 2^16 (R54). -/
def State.storeWord (s : State) (x : Word) (v : Word) : State :=
  (s.store x (loByte v)).store (x + 1#16) (hiByte v)

end Sys2Proof.Machine
end

