-- ==== Sys2Proof/Machine/Operands.lean ====
section
/-! DEFINITION. The registers and every operand form (10_state.md section 1, 30_encoding.md section 3, 45_load.md
section 1). -/

namespace Sys2Proof.Machine

/-! ### Registers and pairs -/

/-- `x[r]` (R10). -/
def State.reg (s : State) : Reg8 → Byte
  | .b => s.b
  | .c => s.c
  | .d => s.d
  | .e => s.e
  | .h => s.h
  | .l => s.l
  | .a => s.a

/-- `x[r] <- v` (R10). -/
def State.setReg (s : State) (r : Reg8) (v : Byte) : State :=
  match r with
  | .b => { s with b := v }
  | .c => { s with c := v }
  | .d => { s with d := v }
  | .e => { s with e := v }
  | .h => { s with h := v }
  | .l => { s with l := v }
  | .a => { s with a := v }

/-- `x[BC]`, B the high byte (R17). -/
def State.bc (s : State) : Word := joinBytes s.b s.c

/-- `x[DE]`, D the high byte (R17). -/
def State.de (s : State) : Word := joinBytes s.d s.e

/-- `x[HL]`, H the high byte (R17). -/
def State.hl (s : State) : Word := joinBytes s.h s.l

/-- `x[AF]`, A the high byte (R17, R34). -/
def State.af (s : State) : Word := joinBytes s.a s.f

/-- `x[BC] <- v` (R22). -/
def State.setBC (s : State) (v : Word) : State := { s with b := hiByte v, c := loByte v }

/-- `x[DE] <- v` (R22). -/
def State.setDE (s : State) (v : Word) : State := { s with d := hiByte v, e := loByte v }

/-- `x[HL] <- v` (R22). -/
def State.setHL (s : State) (v : Word) : State := { s with h := hiByte v, l := loByte v }

/-- `x[AF] <- v`: the low four bits of F are masked to zero (R22, D24). -/
def State.setAF (s : State) (v : Word) : State := { s with a := hiByte v }.setFlagsValue (loByte v)

/-- `x[SP] <- v` (R24). -/
def State.setSP (s : State) (v : Word) : State := { s with sp := v }

/-- `pc <- v` (R10, R25). -/
def State.setPC (s : State) (v : Word) : State := { s with pc := v }

/-- `x[r16(p)]` (R12, R74). -/
def State.reg16 (s : State) : Reg16 → Word
  | .bc => s.bc
  | .de => s.de
  | .hl => s.hl
  | .sp => s.sp

/-- `x[r16(p)] <- v` (R12, R74). -/
def State.setReg16 (s : State) (r : Reg16) (v : Word) : State :=
  match r with
  | .bc => s.setBC v
  | .de => s.setDE v
  | .hl => s.setHL v
  | .sp => s.setSP v

/-- `x[r16stk(p)]` (R75). -/
def State.stackPair (s : State) : StackPair → Word
  | .bc => s.bc
  | .de => s.de
  | .hl => s.hl
  | .af => s.af

/-- `x[r16stk(p)] <- v` (R75, R182, R183). -/
def State.setStackPair (s : State) (p : StackPair) (v : Word) : State :=
  match p with
  | .bc => s.setBC v
  | .de => s.setDE v
  | .hl => s.setHL v
  | .af => s.setAF v

/-! ### The r8 operand (R82) -/

/-- `Read8(s)` (R82). -/
def State.read8 (s : State) : Operand8 → Byte × State
  | .reg r => (s.reg r, s)
  | .atHL => s.load s.hl

/-- `Write8(s, v)` (R82). -/
def State.write8 (s : State) (o : Operand8) (v : Byte) : State :=
  match o with
  | .reg r => s.setReg r v
  | .atHL => s.store s.hl v

/-! ### Addresses of the load group (R184) -/

/-- The address of an accumulator indirect access, before HL moves (R76, R184). -/
def State.pointer (s : State) : Pointer → Word
  | .bc => s.bc
  | .de => s.de
  | .hlInc => s.hl
  | .hlDec => s.hl

/-- After the access: HL moves by one for (HL+) and (HL-), mod 2^16, without touching a flag (R184, R194). -/
def State.movePointer (s : State) : Pointer → State
  | .bc => s
  | .de => s
  | .hlInc => s.setHL (s.hl + 1#16)
  | .hlDec => s.setHL (s.hl - 1#16)

/-- The high page address `0xFF00 + n` (R81, R184). -/
def highPage (n : Byte) : Word := 0xFF00#16 + n.setWidth 16

end Sys2Proof.Machine
end

