-- ==== Sys2Proof/Machine/Ops.lean ====
section
/-! DEFINITION. The operations the instructions share: the clock, the events, the stack, the host's interrupt entry
and the return, the fetch of instruction bytes, and reset (10_state.md section 4, 44_control.md section 1,
60_exceptions.md, 30_encoding.md section 3, 70_reset_and_hazards.md). -/

namespace Sys2Proof.Machine

/-! ### Clock and events -/

/-- `advance(n)`: `n` M-cycles (R40). Both counters wrap mod 2^64 (D21). -/
def State.advance (s : State) (n : Nat) : State :=
  { s with fine := s.fine + BitVec.ofNat 64 n, coarse := (s.fine + BitVec.ofNat 64 n) * 4#64 }

/-- `CYCLE_TABLE` of a descriptor and whether it was taken, in M-cycles; `default` is what the table of R241 says
(R242, D20). -/
def cycleCost : Config.CycleTable → Slot → Bool → Nat → Nat
  | [], _, _, default => default
  | e :: rest, sl, taken, default =>
    if e.slot = sl then (if taken then e.taken else e.notTaken) else cycleCost rest sl taken default

/-- The cost of a descriptor that was taken, or that has no condition (R207): what `CYCLE_TABLE` says, by default
`n` (R241). -/
def State.cost (s : State) (sl : Slot) (n : Nat) : Nat := cycleCost s.params.cycles sl true n

/-- The cost of a descriptor whose condition did not hold (R207): what `CYCLE_TABLE` says, by default `n` (R241). -/
def State.costNotTaken (s : State) (sl : Slot) (n : Nat) : Nat := cycleCost s.params.cycles sl false n

/-- `emit(ev)`: the event this dispatch returns (R11, R44). -/
def State.emit (s : State) (ev : Event) : State := { s with event := ev }

/-! ### The stack -/

/-- `push16(v)`: the high byte to SP-1, then the low byte to SP-2, then SP moves (R166). -/
def State.push16 (s : State) (v : Word) : State :=
  let s1 := s.store (s.sp - 1#16) (hiByte v)
  let s2 := s1.store (s.sp - 2#16) (loByte v)
  s2.setSP (s.sp - 2#16)

/-- `pop16()`: the low byte from SP, the high byte from SP+1, then SP moves (R167). -/
def State.pop16 (s : State) : Word × State :=
  let (lo, s1) := s.load s.sp
  let (hi, s2) := s1.load (s.sp + 1#16)
  (joinBytes hi lo, s2.setSP (s.sp + 2#16))

/-! ### Interrupt entry and return

The block takes no exception and no interrupt of its own (R216, R220, R223). What saves the pc and transfers to a
vector is the host's entry sequence, between two dispatches. -/

/-- The vectors of the host's `dmg_entry` (R221). -/
inductive Vector where
  | x40 | x48 | x50 | x58 | x60
  deriving DecidableEq, Repr

/-- The address of a vector (R221). -/
def Vector.address : Vector → Word
  | .x40 => 0x0040
  | .x48 => 0x0048
  | .x50 => 0x0050
  | .x58 => 0x0058
  | .x60 => 0x0060

/-- What the host does when it injects an interrupt, under each `INTERRUPT_HOST`: nothing, or PC pushed, PC at
the vector, 5 M-cycles (R221, D28). -/
def State.interruptEntry (s : State) (host : Config.InterruptHost) (v : Vector) : State :=
  match host with
  | .none => s
  | .dmgEntry => ((s.push16 s.pc).setPC v.address).advance 5

/-- `pc <- pop16()`: the return of RET, RET cc and RETI (R177 to R179, R224). -/
def State.popPC (s : State) : State :=
  let (v, s1) := s.pop16
  s1.setPC v

/-! ### Fetch -/

/-- `fetch8()`: the byte at PC, and PC moves by one mod 2^16 (R37, R80). -/
def State.fetch8 (s : State) : Byte × State :=
  let (v, s1) := s.load s.pc
  (v, s1.setPC (s.pc + 1#16))

/-- `fetch8()` where the instruction has that byte, else no access. -/
def State.fetchIf (s : State) (has : Bool) : Byte × State := if has then s.fetch8 else (0#8, s)

/-- All bytes of the instruction at PC, in address order, before its effect (R80, R83): the instruction and the
state with PC after its last byte. -/
def State.fetchInstr (s : State) : Instr × State :=
  let (op, s1) := s.fetch8
  let n := lengthOf s.params.stopLength op
  let (b2, s2) := s1.fetchIf (decide (2 ≤ n))
  let (b3, s3) := s2.fetchIf (decide (3 ≤ n))
  (decodeBytes op b2 b3, s3)

/-- The slot whose descriptor the instruction is: its page and its opcode byte there (R43, R84). -/
def slotOf (i : Instr) : Slot :=
  match encode .one i with
  | [] => ⟨.primary, 0#8⟩
  | [op] => ⟨.primary, op⟩
  | op :: b :: _ => if op = 0xCB#8 && i.wellFormed then ⟨.cb, b⟩ else ⟨.primary, op⟩

/-- The start of a dispatch: no event yet (R207 `ev <- none`). -/
def State.beginDispatch (s : State) : State := s.emit .none

/-- The descriptor this dispatch returns (R207). -/
def State.record (s : State) (i : Instr) : State := { s with executed := some (slotOf i) }

/-- Whether the next dispatch is STUCK: only under `ILLEGAL_OPCODE_MODE = lock` does the lock bit exist (R45,
R207). -/
def State.isStuck (s : State) : Bool := s.params.illegalMode == .lock && s.locked

/-- Put bytes into the array at rising addresses from `x`, mod 2^16. -/
def Memory.place (m : Memory) (x : Word) : List Byte → Memory
  | [] => m
  | v :: rest => Memory.place (m.write x.toNat v) (x + 1#16) rest

/-- The table word's instruction placed where the next dispatch fetches it: a flat bus, not locked, and the three
bytes at PC. -/
def State.placeTableWord (s : State) (nbits w : Nat) : State :=
  { s with
    params := { s.params with bus := .flat }
    locked := false
    mem := Memory.place s.mem s.pc (tableBytes nbits w) }

/-! ### Reset -/

/-- `reset()` with its parameters (R233): the registers from `RESET_REGS`, PC from `RESET_PC`, the clock 0, not
locked. Memory, the bus and the parameters are not touched; it reports no event. -/
def State.resetWith (s : State) (regs : Config.ResetRegs) (pc : Word) : State :=
  { s with
    a := regs.a
    f := regs.flags ++ 0#4
    b := regs.b
    c := regs.c
    d := regs.d
    e := regs.e
    h := regs.h
    l := regs.l
    sp := regs.sp
    pc := pc
    fine := 0
    coarse := 0
    locked := false
    event := .none
    executed := none }

end Sys2Proof.Machine
end

