-- ==== Sys2Proof/Machine/Alu16.lean ====
section
/-! DEFINITION. 16-bit arithmetic (41_alu16.md): the shared operations, then one meaning per instruction. -/

namespace Sys2Proof.Machine

/-! ### Shared operations -/

/-- ADD HL,rr: N, H, C written, Z kept (R130). -/
def State.addHL (s : State) (p : Reg16) : State :=
  let (r, fl) := add16 s.hl (s.reg16 p)
  (s.setHL r).writeNHC fl

/-- INC rr: mod 2^16, no flag (R131, D14). -/
def State.inc16 (s : State) (p : Reg16) : State := s.setReg16 p (s.reg16 p + 1#16)

/-- DEC rr: mod 2^16, no flag (R132, D14). -/
def State.dec16 (s : State) (p : Reg16) : State := s.setReg16 p (s.reg16 p - 1#16)

/-- ADD SP,e8 (R133). -/
def State.addSPImm (s : State) (e : Byte) : State :=
  let (r, fl) := addSp s.sp e
  (s.setSP r).writeFlags fl

/-- LD HL,SP+e8: SP is not written (R134). -/
def State.loadHLSPImm (s : State) (e : Byte) : State :=
  let (r, fl) := addSp s.sp e
  (s.setHL r).writeFlags fl

/-! ### The instructions -/

/-- `ADD HL,BC` (09): R130. -/
def execAdd_HL_BC (s : State) : Result :=
  .next ((s.addHL .bc).advance (s.cost ⟨.primary, 0x09⟩ 2))

/-- `ADD HL,DE` (19): R130. -/
def execAdd_HL_DE (s : State) : Result :=
  .next ((s.addHL .de).advance (s.cost ⟨.primary, 0x19⟩ 2))

/-- `ADD HL,HL` (29): R130. -/
def execAdd_HL_HL (s : State) : Result :=
  .next ((s.addHL .hl).advance (s.cost ⟨.primary, 0x29⟩ 2))

/-- `ADD HL,SP` (39): R130. -/
def execAdd_HL_SP (s : State) : Result :=
  .next ((s.addHL .sp).advance (s.cost ⟨.primary, 0x39⟩ 2))

/-- `INC BC` (03): R131. -/
def execInc_BC (s : State) : Result :=
  .next ((s.inc16 .bc).advance (s.cost ⟨.primary, 0x03⟩ 2))

/-- `INC DE` (13): R131. -/
def execInc_DE (s : State) : Result :=
  .next ((s.inc16 .de).advance (s.cost ⟨.primary, 0x13⟩ 2))

/-- `INC HL` (23): R131. -/
def execInc_HL (s : State) : Result :=
  .next ((s.inc16 .hl).advance (s.cost ⟨.primary, 0x23⟩ 2))

/-- `INC SP` (33): R131. -/
def execInc_SP (s : State) : Result :=
  .next ((s.inc16 .sp).advance (s.cost ⟨.primary, 0x33⟩ 2))

/-- `DEC BC` (0B): R132. -/
def execDec_BC (s : State) : Result :=
  .next ((s.dec16 .bc).advance (s.cost ⟨.primary, 0x0B⟩ 2))

/-- `DEC DE` (1B): R132. -/
def execDec_DE (s : State) : Result :=
  .next ((s.dec16 .de).advance (s.cost ⟨.primary, 0x1B⟩ 2))

/-- `DEC HL` (2B): R132. -/
def execDec_HL (s : State) : Result :=
  .next ((s.dec16 .hl).advance (s.cost ⟨.primary, 0x2B⟩ 2))

/-- `DEC SP` (3B): R132. -/
def execDec_SP (s : State) : Result :=
  .next ((s.dec16 .sp).advance (s.cost ⟨.primary, 0x3B⟩ 2))

/-- `ADD SP,e8` (E8): R133. -/
def execAdd_SP_e8 (n : Byte) (s : State) : Result :=
  .next ((s.addSPImm n).advance (s.cost ⟨.primary, 0xE8⟩ 4))

/-- `LD HL,SP+e8` (F8): R134. -/
def execLd_HL_SPe8 (n : Byte) (s : State) : Result :=
  .next ((s.loadHLSPImm n).advance (s.cost ⟨.primary, 0xF8⟩ 3))

end Sys2Proof.Machine
end

