-- ==== Sys2Proof/Machine/Alu8.lean ====
section
/-! DEFINITION. 8-bit arithmetic and logic (40_alu8.md): the shared operations, then one meaning per instruction. -/

namespace Sys2Proof.Machine

/-! ### Shared operations -/

/-- An ALU operation on A and a value: A takes the result, but not for CP, and F takes all four flags (R95, R96
to R119). -/
def State.applyAlu (s : State) (op : AluOp) (v : Byte) : State :=
  let (r, fl) := aluResult op s.a v (s.flag .carry)
  match op with
  | .cp => s.writeFlags fl
  | _ => { s with a := r }.writeFlags fl

/-- An ALU operation on A and an r8 operand (R82, R96 to R118). -/
def State.aluOperand (s : State) (op : AluOp) (o : Operand8) : State :=
  let (v, s1) := s.read8 o
  s1.applyAlu op v

/-- INC on an r8 operand: read, write, then Z, N, H (R120, R121). -/
def State.incOperand (s : State) (o : Operand8) : State :=
  let (v, s1) := s.read8 o
  let (r, fl) := inc8 v
  (s1.write8 o r).writeZNH fl

/-- DEC on an r8 operand: read, write, then Z, N, H (R122, R123). -/
def State.decOperand (s : State) (o : Operand8) : State :=
  let (v, s1) := s.read8 o
  let (r, fl) := dec8 v
  (s1.write8 o r).writeZNH fl

/-- DAA: A corrected, Z from the result, H 0, C as the correction leaves it, N kept (R124). -/
def State.daa (s : State) : State :=
  let (r, c) := daaResult s.a (s.flag .subtract) (s.flag .halfCarry) (s.flag .carry)
  (({ s with a := r }.putFlag .zero (r == 0#8)).putFlag .halfCarry false).putFlag .carry c

/-- CPL: A complemented, N and H set (R125). -/
def State.cpl (s : State) : State :=
  ({ s with a := ~~~s.a }.putFlag .subtract true).putFlag .halfCarry true

/-- SCF: N and H cleared, C set (R126). -/
def State.scf (s : State) : State :=
  ((s.putFlag .subtract false).putFlag .halfCarry false).putFlag .carry true

/-- CCF: N and H cleared, C complemented (R127). -/
def State.ccf (s : State) : State :=
  ((s.putFlag .subtract false).putFlag .halfCarry false).putFlag .carry (!s.flag .carry)

/-! ### The instructions -/

/-- `ADD A,B` (80): R96. -/
def execAdd_A_B (s : State) : Result :=
  .next ((s.aluOperand .add (.reg .b)).advance (s.cost ⟨.primary, 0x80⟩ 1))

/-- `ADD A,C` (81): R96. -/
def execAdd_A_C (s : State) : Result :=
  .next ((s.aluOperand .add (.reg .c)).advance (s.cost ⟨.primary, 0x81⟩ 1))

/-- `ADD A,D` (82): R96. -/
def execAdd_A_D (s : State) : Result :=
  .next ((s.aluOperand .add (.reg .d)).advance (s.cost ⟨.primary, 0x82⟩ 1))

/-- `ADD A,E` (83): R96. -/
def execAdd_A_E (s : State) : Result :=
  .next ((s.aluOperand .add (.reg .e)).advance (s.cost ⟨.primary, 0x83⟩ 1))

/-- `ADD A,H` (84): R96. -/
def execAdd_A_H (s : State) : Result :=
  .next ((s.aluOperand .add (.reg .h)).advance (s.cost ⟨.primary, 0x84⟩ 1))

/-- `ADD A,L` (85): R96. -/
def execAdd_A_L (s : State) : Result :=
  .next ((s.aluOperand .add (.reg .l)).advance (s.cost ⟨.primary, 0x85⟩ 1))

/-- `ADD A,(HL)` (86): R97. -/
def execAdd_A_atHL (s : State) : Result :=
  .next ((s.aluOperand .add .atHL).advance (s.cost ⟨.primary, 0x86⟩ 2))

/-- `ADD A,A` (87): R96. -/
def execAdd_A_A (s : State) : Result :=
  .next ((s.aluOperand .add (.reg .a)).advance (s.cost ⟨.primary, 0x87⟩ 1))

/-- `ADD A,d8` (C6): R98. -/
def execAdd_A_d8 (n : Byte) (s : State) : Result :=
  .next ((s.applyAlu .add n).advance (s.cost ⟨.primary, 0xC6⟩ 2))

/-- `ADC A,B` (88): R99. -/
def execAdc_A_B (s : State) : Result :=
  .next ((s.aluOperand .adc (.reg .b)).advance (s.cost ⟨.primary, 0x88⟩ 1))

/-- `ADC A,C` (89): R99. -/
def execAdc_A_C (s : State) : Result :=
  .next ((s.aluOperand .adc (.reg .c)).advance (s.cost ⟨.primary, 0x89⟩ 1))

/-- `ADC A,D` (8A): R99. -/
def execAdc_A_D (s : State) : Result :=
  .next ((s.aluOperand .adc (.reg .d)).advance (s.cost ⟨.primary, 0x8A⟩ 1))

/-- `ADC A,E` (8B): R99. -/
def execAdc_A_E (s : State) : Result :=
  .next ((s.aluOperand .adc (.reg .e)).advance (s.cost ⟨.primary, 0x8B⟩ 1))

/-- `ADC A,H` (8C): R99. -/
def execAdc_A_H (s : State) : Result :=
  .next ((s.aluOperand .adc (.reg .h)).advance (s.cost ⟨.primary, 0x8C⟩ 1))

/-- `ADC A,L` (8D): R99. -/
def execAdc_A_L (s : State) : Result :=
  .next ((s.aluOperand .adc (.reg .l)).advance (s.cost ⟨.primary, 0x8D⟩ 1))

/-- `ADC A,(HL)` (8E): R100. -/
def execAdc_A_atHL (s : State) : Result :=
  .next ((s.aluOperand .adc .atHL).advance (s.cost ⟨.primary, 0x8E⟩ 2))

/-- `ADC A,A` (8F): R99. -/
def execAdc_A_A (s : State) : Result :=
  .next ((s.aluOperand .adc (.reg .a)).advance (s.cost ⟨.primary, 0x8F⟩ 1))

/-- `ADC A,d8` (CE): R101. -/
def execAdc_A_d8 (n : Byte) (s : State) : Result :=
  .next ((s.applyAlu .adc n).advance (s.cost ⟨.primary, 0xCE⟩ 2))

/-- `SUB B` (90): R102. -/
def execSub_B (s : State) : Result :=
  .next ((s.aluOperand .sub (.reg .b)).advance (s.cost ⟨.primary, 0x90⟩ 1))

/-- `SUB C` (91): R102. -/
def execSub_C (s : State) : Result :=
  .next ((s.aluOperand .sub (.reg .c)).advance (s.cost ⟨.primary, 0x91⟩ 1))

/-- `SUB D` (92): R102. -/
def execSub_D (s : State) : Result :=
  .next ((s.aluOperand .sub (.reg .d)).advance (s.cost ⟨.primary, 0x92⟩ 1))

/-- `SUB E` (93): R102. -/
def execSub_E (s : State) : Result :=
  .next ((s.aluOperand .sub (.reg .e)).advance (s.cost ⟨.primary, 0x93⟩ 1))

/-- `SUB H` (94): R102. -/
def execSub_H (s : State) : Result :=
  .next ((s.aluOperand .sub (.reg .h)).advance (s.cost ⟨.primary, 0x94⟩ 1))

/-- `SUB L` (95): R102. -/
def execSub_L (s : State) : Result :=
  .next ((s.aluOperand .sub (.reg .l)).advance (s.cost ⟨.primary, 0x95⟩ 1))

/-- `SUB (HL)` (96): R103. -/
def execSub_atHL (s : State) : Result :=
  .next ((s.aluOperand .sub .atHL).advance (s.cost ⟨.primary, 0x96⟩ 2))

/-- `SUB A` (97): R102. -/
def execSub_A (s : State) : Result :=
  .next ((s.aluOperand .sub (.reg .a)).advance (s.cost ⟨.primary, 0x97⟩ 1))

/-- `SUB d8` (D6): R104. -/
def execSub_d8 (n : Byte) (s : State) : Result :=
  .next ((s.applyAlu .sub n).advance (s.cost ⟨.primary, 0xD6⟩ 2))

/-- `SBC A,B` (98): R105. -/
def execSbc_A_B (s : State) : Result :=
  .next ((s.aluOperand .sbc (.reg .b)).advance (s.cost ⟨.primary, 0x98⟩ 1))

/-- `SBC A,C` (99): R105. -/
def execSbc_A_C (s : State) : Result :=
  .next ((s.aluOperand .sbc (.reg .c)).advance (s.cost ⟨.primary, 0x99⟩ 1))

/-- `SBC A,D` (9A): R105. -/
def execSbc_A_D (s : State) : Result :=
  .next ((s.aluOperand .sbc (.reg .d)).advance (s.cost ⟨.primary, 0x9A⟩ 1))

/-- `SBC A,E` (9B): R105. -/
def execSbc_A_E (s : State) : Result :=
  .next ((s.aluOperand .sbc (.reg .e)).advance (s.cost ⟨.primary, 0x9B⟩ 1))

/-- `SBC A,H` (9C): R105. -/
def execSbc_A_H (s : State) : Result :=
  .next ((s.aluOperand .sbc (.reg .h)).advance (s.cost ⟨.primary, 0x9C⟩ 1))

/-- `SBC A,L` (9D): R105. -/
def execSbc_A_L (s : State) : Result :=
  .next ((s.aluOperand .sbc (.reg .l)).advance (s.cost ⟨.primary, 0x9D⟩ 1))

/-- `SBC A,(HL)` (9E): R106. -/
def execSbc_A_atHL (s : State) : Result :=
  .next ((s.aluOperand .sbc .atHL).advance (s.cost ⟨.primary, 0x9E⟩ 2))

/-- `SBC A,A` (9F): R105. -/
def execSbc_A_A (s : State) : Result :=
  .next ((s.aluOperand .sbc (.reg .a)).advance (s.cost ⟨.primary, 0x9F⟩ 1))

/-- `SBC A,d8` (DE): R107. -/
def execSbc_A_d8 (n : Byte) (s : State) : Result :=
  .next ((s.applyAlu .sbc n).advance (s.cost ⟨.primary, 0xDE⟩ 2))

/-- `AND B` (A0): R108. -/
def execAnd_B (s : State) : Result :=
  .next ((s.aluOperand .and (.reg .b)).advance (s.cost ⟨.primary, 0xA0⟩ 1))

/-- `AND C` (A1): R108. -/
def execAnd_C (s : State) : Result :=
  .next ((s.aluOperand .and (.reg .c)).advance (s.cost ⟨.primary, 0xA1⟩ 1))

/-- `AND D` (A2): R108. -/
def execAnd_D (s : State) : Result :=
  .next ((s.aluOperand .and (.reg .d)).advance (s.cost ⟨.primary, 0xA2⟩ 1))

/-- `AND E` (A3): R108. -/
def execAnd_E (s : State) : Result :=
  .next ((s.aluOperand .and (.reg .e)).advance (s.cost ⟨.primary, 0xA3⟩ 1))

/-- `AND H` (A4): R108. -/
def execAnd_H (s : State) : Result :=
  .next ((s.aluOperand .and (.reg .h)).advance (s.cost ⟨.primary, 0xA4⟩ 1))

/-- `AND L` (A5): R108. -/
def execAnd_L (s : State) : Result :=
  .next ((s.aluOperand .and (.reg .l)).advance (s.cost ⟨.primary, 0xA5⟩ 1))

/-- `AND (HL)` (A6): R109. -/
def execAnd_atHL (s : State) : Result :=
  .next ((s.aluOperand .and .atHL).advance (s.cost ⟨.primary, 0xA6⟩ 2))

/-- `AND A` (A7): R108. -/
def execAnd_A (s : State) : Result :=
  .next ((s.aluOperand .and (.reg .a)).advance (s.cost ⟨.primary, 0xA7⟩ 1))

/-- `AND d8` (E6): R110. -/
def execAnd_d8 (n : Byte) (s : State) : Result :=
  .next ((s.applyAlu .and n).advance (s.cost ⟨.primary, 0xE6⟩ 2))

/-- `XOR B` (A8): R111. -/
def execXor_B (s : State) : Result :=
  .next ((s.aluOperand .xor (.reg .b)).advance (s.cost ⟨.primary, 0xA8⟩ 1))

/-- `XOR C` (A9): R111. -/
def execXor_C (s : State) : Result :=
  .next ((s.aluOperand .xor (.reg .c)).advance (s.cost ⟨.primary, 0xA9⟩ 1))

/-- `XOR D` (AA): R111. -/
def execXor_D (s : State) : Result :=
  .next ((s.aluOperand .xor (.reg .d)).advance (s.cost ⟨.primary, 0xAA⟩ 1))

/-- `XOR E` (AB): R111. -/
def execXor_E (s : State) : Result :=
  .next ((s.aluOperand .xor (.reg .e)).advance (s.cost ⟨.primary, 0xAB⟩ 1))

/-- `XOR H` (AC): R111. -/
def execXor_H (s : State) : Result :=
  .next ((s.aluOperand .xor (.reg .h)).advance (s.cost ⟨.primary, 0xAC⟩ 1))

/-- `XOR L` (AD): R111. -/
def execXor_L (s : State) : Result :=
  .next ((s.aluOperand .xor (.reg .l)).advance (s.cost ⟨.primary, 0xAD⟩ 1))

/-- `XOR (HL)` (AE): R112. -/
def execXor_atHL (s : State) : Result :=
  .next ((s.aluOperand .xor .atHL).advance (s.cost ⟨.primary, 0xAE⟩ 2))

/-- `XOR A` (AF): R111. -/
def execXor_A (s : State) : Result :=
  .next ((s.aluOperand .xor (.reg .a)).advance (s.cost ⟨.primary, 0xAF⟩ 1))

/-- `XOR d8` (EE): R113. -/
def execXor_d8 (n : Byte) (s : State) : Result :=
  .next ((s.applyAlu .xor n).advance (s.cost ⟨.primary, 0xEE⟩ 2))

/-- `OR B` (B0): R114. -/
def execOr_B (s : State) : Result :=
  .next ((s.aluOperand .or (.reg .b)).advance (s.cost ⟨.primary, 0xB0⟩ 1))

/-- `OR C` (B1): R114. -/
def execOr_C (s : State) : Result :=
  .next ((s.aluOperand .or (.reg .c)).advance (s.cost ⟨.primary, 0xB1⟩ 1))

/-- `OR D` (B2): R114. -/
def execOr_D (s : State) : Result :=
  .next ((s.aluOperand .or (.reg .d)).advance (s.cost ⟨.primary, 0xB2⟩ 1))

/-- `OR E` (B3): R114. -/
def execOr_E (s : State) : Result :=
  .next ((s.aluOperand .or (.reg .e)).advance (s.cost ⟨.primary, 0xB3⟩ 1))

/-- `OR H` (B4): R114. -/
def execOr_H (s : State) : Result :=
  .next ((s.aluOperand .or (.reg .h)).advance (s.cost ⟨.primary, 0xB4⟩ 1))

/-- `OR L` (B5): R114. -/
def execOr_L (s : State) : Result :=
  .next ((s.aluOperand .or (.reg .l)).advance (s.cost ⟨.primary, 0xB5⟩ 1))

/-- `OR (HL)` (B6): R115. -/
def execOr_atHL (s : State) : Result :=
  .next ((s.aluOperand .or .atHL).advance (s.cost ⟨.primary, 0xB6⟩ 2))

/-- `OR A` (B7): R114. -/
def execOr_A (s : State) : Result :=
  .next ((s.aluOperand .or (.reg .a)).advance (s.cost ⟨.primary, 0xB7⟩ 1))

/-- `OR d8` (F6): R116. -/
def execOr_d8 (n : Byte) (s : State) : Result :=
  .next ((s.applyAlu .or n).advance (s.cost ⟨.primary, 0xF6⟩ 2))

/-- `CP B` (B8): R117. -/
def execCp_B (s : State) : Result :=
  .next ((s.aluOperand .cp (.reg .b)).advance (s.cost ⟨.primary, 0xB8⟩ 1))

/-- `CP C` (B9): R117. -/
def execCp_C (s : State) : Result :=
  .next ((s.aluOperand .cp (.reg .c)).advance (s.cost ⟨.primary, 0xB9⟩ 1))

/-- `CP D` (BA): R117. -/
def execCp_D (s : State) : Result :=
  .next ((s.aluOperand .cp (.reg .d)).advance (s.cost ⟨.primary, 0xBA⟩ 1))

/-- `CP E` (BB): R117. -/
def execCp_E (s : State) : Result :=
  .next ((s.aluOperand .cp (.reg .e)).advance (s.cost ⟨.primary, 0xBB⟩ 1))

/-- `CP H` (BC): R117. -/
def execCp_H (s : State) : Result :=
  .next ((s.aluOperand .cp (.reg .h)).advance (s.cost ⟨.primary, 0xBC⟩ 1))

/-- `CP L` (BD): R117. -/
def execCp_L (s : State) : Result :=
  .next ((s.aluOperand .cp (.reg .l)).advance (s.cost ⟨.primary, 0xBD⟩ 1))

/-- `CP (HL)` (BE): R118. -/
def execCp_atHL (s : State) : Result :=
  .next ((s.aluOperand .cp .atHL).advance (s.cost ⟨.primary, 0xBE⟩ 2))

/-- `CP A` (BF): R117. -/
def execCp_A (s : State) : Result :=
  .next ((s.aluOperand .cp (.reg .a)).advance (s.cost ⟨.primary, 0xBF⟩ 1))

/-- `CP d8` (FE): R119. -/
def execCp_d8 (n : Byte) (s : State) : Result :=
  .next ((s.applyAlu .cp n).advance (s.cost ⟨.primary, 0xFE⟩ 2))

/-- `INC B` (04): R120. -/
def execInc_B (s : State) : Result :=
  .next ((s.incOperand (.reg .b)).advance (s.cost ⟨.primary, 0x04⟩ 1))

/-- `INC C` (0C): R120. -/
def execInc_C (s : State) : Result :=
  .next ((s.incOperand (.reg .c)).advance (s.cost ⟨.primary, 0x0C⟩ 1))

/-- `INC D` (14): R120. -/
def execInc_D (s : State) : Result :=
  .next ((s.incOperand (.reg .d)).advance (s.cost ⟨.primary, 0x14⟩ 1))

/-- `INC E` (1C): R120. -/
def execInc_E (s : State) : Result :=
  .next ((s.incOperand (.reg .e)).advance (s.cost ⟨.primary, 0x1C⟩ 1))

/-- `INC H` (24): R120. -/
def execInc_H (s : State) : Result :=
  .next ((s.incOperand (.reg .h)).advance (s.cost ⟨.primary, 0x24⟩ 1))

/-- `INC L` (2C): R120. -/
def execInc_L (s : State) : Result :=
  .next ((s.incOperand (.reg .l)).advance (s.cost ⟨.primary, 0x2C⟩ 1))

/-- `INC (HL)` (34): R121. -/
def execInc_atHL (s : State) : Result :=
  .next ((s.incOperand .atHL).advance (s.cost ⟨.primary, 0x34⟩ 3))

/-- `INC A` (3C): R120. -/
def execInc_A (s : State) : Result :=
  .next ((s.incOperand (.reg .a)).advance (s.cost ⟨.primary, 0x3C⟩ 1))

/-- `DEC B` (05): R122. -/
def execDec_B (s : State) : Result :=
  .next ((s.decOperand (.reg .b)).advance (s.cost ⟨.primary, 0x05⟩ 1))

/-- `DEC C` (0D): R122. -/
def execDec_C (s : State) : Result :=
  .next ((s.decOperand (.reg .c)).advance (s.cost ⟨.primary, 0x0D⟩ 1))

/-- `DEC D` (15): R122. -/
def execDec_D (s : State) : Result :=
  .next ((s.decOperand (.reg .d)).advance (s.cost ⟨.primary, 0x15⟩ 1))

/-- `DEC E` (1D): R122. -/
def execDec_E (s : State) : Result :=
  .next ((s.decOperand (.reg .e)).advance (s.cost ⟨.primary, 0x1D⟩ 1))

/-- `DEC H` (25): R122. -/
def execDec_H (s : State) : Result :=
  .next ((s.decOperand (.reg .h)).advance (s.cost ⟨.primary, 0x25⟩ 1))

/-- `DEC L` (2D): R122. -/
def execDec_L (s : State) : Result :=
  .next ((s.decOperand (.reg .l)).advance (s.cost ⟨.primary, 0x2D⟩ 1))

/-- `DEC (HL)` (35): R123. -/
def execDec_atHL (s : State) : Result :=
  .next ((s.decOperand .atHL).advance (s.cost ⟨.primary, 0x35⟩ 3))

/-- `DEC A` (3D): R122. -/
def execDec_A (s : State) : Result :=
  .next ((s.decOperand (.reg .a)).advance (s.cost ⟨.primary, 0x3D⟩ 1))

/-- `DAA` (27): R124. -/
def execDaa (s : State) : Result :=
  .next (s.daa.advance (s.cost ⟨.primary, 0x27⟩ 1))

/-- `CPL` (2F): R125. -/
def execCpl (s : State) : Result :=
  .next (s.cpl.advance (s.cost ⟨.primary, 0x2F⟩ 1))

/-- `SCF` (37): R126. -/
def execScf (s : State) : Result :=
  .next (s.scf.advance (s.cost ⟨.primary, 0x37⟩ 1))

/-- `CCF` (3F): R127. -/
def execCcf (s : State) : Result :=
  .next (s.ccf.advance (s.cost ⟨.primary, 0x3F⟩ 1))

end Sys2Proof.Machine
end

