-- ==== Sys2Proof/Machine/Control.lean ====
section
/-! DEFINITION. Control transfer and stack (44_control.md): the shared operations, then one meaning per instruction. When an
instruction runs, PC already holds the address after its last byte (R37). -/

namespace Sys2Proof.Machine

/-! ### Shared operations -/

/-- The condition of a transfer; an unconditional form has it pre-satisfied (R165). -/
def State.taken (s : State) : Option Cond → Bool
  | none => true
  | some k => s.cond k

/-- JP: PC at the target if the condition holds; the cost is the taken or the not-taken one (R170, R171, R207). -/
def State.jump (s : State) (c : Option Cond) (target : Word) (sl : Slot) (cost costNotTaken : Nat) : State :=
  if s.taken c then (s.setPC target).advance (s.cost sl cost) else s.advance (s.costNotTaken sl costNotTaken)

/-- JR: the target is relative to the address after the displacement byte; no flag (R173, R174, D13). -/
def State.jumpRel (s : State) (c : Option Cond) (e : Byte) (sl : Slot) (cost costNotTaken : Nat) : State :=
  s.jump c (s.pc + sext16 e) sl cost costNotTaken

/-- CALL: the return address pushed, then PC at the target (R175, R176). -/
def State.call (s : State) (c : Option Cond) (target : Word) (sl : Slot) (cost costNotTaken : Nat) : State :=
  if s.taken c then ((s.push16 s.pc).setPC target).advance (s.cost sl cost)
  else s.advance (s.costNotTaken sl costNotTaken)

/-- RET: PC popped; where the condition fails nothing is read (R177, R178). -/
def State.ret (s : State) (c : Option Cond) (sl : Slot) (cost costNotTaken : Nat) : State :=
  if s.taken c then s.popPC.advance (s.cost sl cost) else s.advance (s.costNotTaken sl costNotTaken)

/-- The restart vector `t * 8` (R81, R180). -/
def restartVector (t : Fin 8) : Word := BitVec.ofNat 16 (t.val * 8)

/-- RST: the return address pushed, then PC at the restart vector (R180). -/
def State.restart (s : State) (t : Fin 8) : State := (s.push16 s.pc).setPC (restartVector t)

/-- PUSH (R181). -/
def State.push (s : State) (p : StackPair) : State := s.push16 (s.stackPair p)

/-- POP (R182); POP AF masks F (R183). -/
def State.pop (s : State) (p : StackPair) : State :=
  let (v, s1) := s.pop16
  s1.setStackPair p v

/-! ### The instructions -/

/-- `JP a16` (C3): R170. -/
def execJp_a16 (nn : Word) (s : State) : Result :=
  .next (s.jump none nn ⟨.primary, 0xC3⟩ 4 4)

/-- `JP NZ,a16` (C2): R171. -/
def execJp_NZ_a16 (nn : Word) (s : State) : Result :=
  .next (s.jump (some .nz) nn ⟨.primary, 0xC2⟩ 4 3)

/-- `JP Z,a16` (CA): R171. -/
def execJp_Z_a16 (nn : Word) (s : State) : Result :=
  .next (s.jump (some .z) nn ⟨.primary, 0xCA⟩ 4 3)

/-- `JP NC,a16` (D2): R171. -/
def execJp_NC_a16 (nn : Word) (s : State) : Result :=
  .next (s.jump (some .nc) nn ⟨.primary, 0xD2⟩ 4 3)

/-- `JP C,a16` (DA): R171. -/
def execJp_C_a16 (nn : Word) (s : State) : Result :=
  .next (s.jump (some .c) nn ⟨.primary, 0xDA⟩ 4 3)

/-- `JP HL` (E9): R172. No memory is read. -/
def execJp_HL (s : State) : Result :=
  .next ((s.setPC s.hl).advance (s.cost ⟨.primary, 0xE9⟩ 1))

/-- `JR e8` (18): R173. -/
def execJr_e8 (n : Byte) (s : State) : Result :=
  .next (s.jumpRel none n ⟨.primary, 0x18⟩ 3 3)

/-- `JR NZ,e8` (20): R174. -/
def execJr_NZ_e8 (n : Byte) (s : State) : Result :=
  .next (s.jumpRel (some .nz) n ⟨.primary, 0x20⟩ 3 2)

/-- `JR Z,e8` (28): R174. -/
def execJr_Z_e8 (n : Byte) (s : State) : Result :=
  .next (s.jumpRel (some .z) n ⟨.primary, 0x28⟩ 3 2)

/-- `JR NC,e8` (30): R174. -/
def execJr_NC_e8 (n : Byte) (s : State) : Result :=
  .next (s.jumpRel (some .nc) n ⟨.primary, 0x30⟩ 3 2)

/-- `JR C,e8` (38): R174. -/
def execJr_C_e8 (n : Byte) (s : State) : Result :=
  .next (s.jumpRel (some .c) n ⟨.primary, 0x38⟩ 3 2)

/-- `CALL a16` (CD): R175. -/
def execCall_a16 (nn : Word) (s : State) : Result :=
  .next (s.call none nn ⟨.primary, 0xCD⟩ 6 6)

/-- `CALL NZ,a16` (C4): R176. -/
def execCall_NZ_a16 (nn : Word) (s : State) : Result :=
  .next (s.call (some .nz) nn ⟨.primary, 0xC4⟩ 6 3)

/-- `CALL Z,a16` (CC): R176. -/
def execCall_Z_a16 (nn : Word) (s : State) : Result :=
  .next (s.call (some .z) nn ⟨.primary, 0xCC⟩ 6 3)

/-- `CALL NC,a16` (D4): R176. -/
def execCall_NC_a16 (nn : Word) (s : State) : Result :=
  .next (s.call (some .nc) nn ⟨.primary, 0xD4⟩ 6 3)

/-- `CALL C,a16` (DC): R176. -/
def execCall_C_a16 (nn : Word) (s : State) : Result :=
  .next (s.call (some .c) nn ⟨.primary, 0xDC⟩ 6 3)

/-- `RET` (C9): R177. -/
def execRet (s : State) : Result :=
  .next (s.ret none ⟨.primary, 0xC9⟩ 4 4)

/-- `RET NZ` (C0): R178. -/
def execRet_NZ (s : State) : Result :=
  .next (s.ret (some .nz) ⟨.primary, 0xC0⟩ 5 2)

/-- `RET Z` (C8): R178. -/
def execRet_Z (s : State) : Result :=
  .next (s.ret (some .z) ⟨.primary, 0xC8⟩ 5 2)

/-- `RET NC` (D0): R178. -/
def execRet_NC (s : State) : Result :=
  .next (s.ret (some .nc) ⟨.primary, 0xD0⟩ 5 2)

/-- `RET C` (D8): R178. -/
def execRet_C (s : State) : Result :=
  .next (s.ret (some .c) ⟨.primary, 0xD8⟩ 5 2)

/-- `RETI` (D9): R179. -/
def execReti (s : State) : Result :=
  .next ((s.popPC.emit .reti).advance (s.cost ⟨.primary, 0xD9⟩ 4))

/-- `RST 0x00` (C7): R180. -/
def execRst_00 (s : State) : Result :=
  .next ((s.restart 0).advance (s.cost ⟨.primary, 0xC7⟩ 4))

/-- `RST 0x08` (CF): R180. -/
def execRst_08 (s : State) : Result :=
  .next ((s.restart 1).advance (s.cost ⟨.primary, 0xCF⟩ 4))

/-- `RST 0x10` (D7): R180. -/
def execRst_10 (s : State) : Result :=
  .next ((s.restart 2).advance (s.cost ⟨.primary, 0xD7⟩ 4))

/-- `RST 0x18` (DF): R180. -/
def execRst_18 (s : State) : Result :=
  .next ((s.restart 3).advance (s.cost ⟨.primary, 0xDF⟩ 4))

/-- `RST 0x20` (E7): R180. -/
def execRst_20 (s : State) : Result :=
  .next ((s.restart 4).advance (s.cost ⟨.primary, 0xE7⟩ 4))

/-- `RST 0x28` (EF): R180. -/
def execRst_28 (s : State) : Result :=
  .next ((s.restart 5).advance (s.cost ⟨.primary, 0xEF⟩ 4))

/-- `RST 0x30` (F7): R180. -/
def execRst_30 (s : State) : Result :=
  .next ((s.restart 6).advance (s.cost ⟨.primary, 0xF7⟩ 4))

/-- `RST 0x38` (FF): R180. -/
def execRst_38 (s : State) : Result :=
  .next ((s.restart 7).advance (s.cost ⟨.primary, 0xFF⟩ 4))

/-- `PUSH BC` (C5): R181. -/
def execPush_BC (s : State) : Result :=
  .next ((s.push .bc).advance (s.cost ⟨.primary, 0xC5⟩ 4))

/-- `PUSH DE` (D5): R181. -/
def execPush_DE (s : State) : Result :=
  .next ((s.push .de).advance (s.cost ⟨.primary, 0xD5⟩ 4))

/-- `PUSH HL` (E5): R181. -/
def execPush_HL (s : State) : Result :=
  .next ((s.push .hl).advance (s.cost ⟨.primary, 0xE5⟩ 4))

/-- `PUSH AF` (F5): R181. -/
def execPush_AF (s : State) : Result :=
  .next ((s.push .af).advance (s.cost ⟨.primary, 0xF5⟩ 4))

/-- `POP BC` (C1): R182. -/
def execPop_BC (s : State) : Result :=
  .next ((s.pop .bc).advance (s.cost ⟨.primary, 0xC1⟩ 3))

/-- `POP DE` (D1): R182. -/
def execPop_DE (s : State) : Result :=
  .next ((s.pop .de).advance (s.cost ⟨.primary, 0xD1⟩ 3))

/-- `POP HL` (E1): R182. -/
def execPop_HL (s : State) : Result :=
  .next ((s.pop .hl).advance (s.cost ⟨.primary, 0xE1⟩ 3))

/-- `POP AF` (F1): R183. -/
def execPop_AF (s : State) : Result :=
  .next ((s.pop .af).advance (s.cost ⟨.primary, 0xF1⟩ 3))

end Sys2Proof.Machine
end

