-- ==== Sys2Proof/Machine/Load.lean ====
section
/-! DEFINITION. Loads and stores (45_load.md): the shared operations, then one meaning per instruction. None changes a flag. -/

namespace Sys2Proof.Machine

/-! ### Shared operations -/

/-- LD between two r8 operands: the source is read before the destination is written (R185 to R187). -/
def State.loadOperand (s : State) (dst src : Operand8) : State :=
  let (v, s1) := s.read8 src
  s1.write8 dst v

/-- LD (pointer),A: the access, then HL moves for (HL+) and (HL-) (R190, R191, R194, R195). -/
def State.storeA (s : State) (p : Pointer) : State := (s.store (s.pointer p) s.a).movePointer p

/-- A from the byte at an address (R199, R201, R203). -/
def State.loadAAt (s : State) (x : Word) : State :=
  let (v, s1) := s.load x
  { s1 with a := v }

/-- LD A,(pointer): the access, then HL moves for (HL+) and (HL-) (R192, R193, R196, R197). -/
def State.loadA (s : State) (p : Pointer) : State := (s.loadAAt (s.pointer p)).movePointer p

/-! ### The instructions -/

/-- `LD B,B` (40): R185. -/
def execLd_B_B (s : State) : Result :=
  .next ((s.loadOperand (.reg .b) (.reg .b)).advance (s.cost ⟨.primary, 0x40⟩ 1))

/-- `LD B,C` (41): R185. -/
def execLd_B_C (s : State) : Result :=
  .next ((s.loadOperand (.reg .b) (.reg .c)).advance (s.cost ⟨.primary, 0x41⟩ 1))

/-- `LD B,D` (42): R185. -/
def execLd_B_D (s : State) : Result :=
  .next ((s.loadOperand (.reg .b) (.reg .d)).advance (s.cost ⟨.primary, 0x42⟩ 1))

/-- `LD B,E` (43): R185. -/
def execLd_B_E (s : State) : Result :=
  .next ((s.loadOperand (.reg .b) (.reg .e)).advance (s.cost ⟨.primary, 0x43⟩ 1))

/-- `LD B,H` (44): R185. -/
def execLd_B_H (s : State) : Result :=
  .next ((s.loadOperand (.reg .b) (.reg .h)).advance (s.cost ⟨.primary, 0x44⟩ 1))

/-- `LD B,L` (45): R185. -/
def execLd_B_L (s : State) : Result :=
  .next ((s.loadOperand (.reg .b) (.reg .l)).advance (s.cost ⟨.primary, 0x45⟩ 1))

/-- `LD B,(HL)` (46): R186. -/
def execLd_B_atHL (s : State) : Result :=
  .next ((s.loadOperand (.reg .b) .atHL).advance (s.cost ⟨.primary, 0x46⟩ 2))

/-- `LD B,A` (47): R185. -/
def execLd_B_A (s : State) : Result :=
  .next ((s.loadOperand (.reg .b) (.reg .a)).advance (s.cost ⟨.primary, 0x47⟩ 1))

/-- `LD C,B` (48): R185. -/
def execLd_C_B (s : State) : Result :=
  .next ((s.loadOperand (.reg .c) (.reg .b)).advance (s.cost ⟨.primary, 0x48⟩ 1))

/-- `LD C,C` (49): R185. -/
def execLd_C_C (s : State) : Result :=
  .next ((s.loadOperand (.reg .c) (.reg .c)).advance (s.cost ⟨.primary, 0x49⟩ 1))

/-- `LD C,D` (4A): R185. -/
def execLd_C_D (s : State) : Result :=
  .next ((s.loadOperand (.reg .c) (.reg .d)).advance (s.cost ⟨.primary, 0x4A⟩ 1))

/-- `LD C,E` (4B): R185. -/
def execLd_C_E (s : State) : Result :=
  .next ((s.loadOperand (.reg .c) (.reg .e)).advance (s.cost ⟨.primary, 0x4B⟩ 1))

/-- `LD C,H` (4C): R185. -/
def execLd_C_H (s : State) : Result :=
  .next ((s.loadOperand (.reg .c) (.reg .h)).advance (s.cost ⟨.primary, 0x4C⟩ 1))

/-- `LD C,L` (4D): R185. -/
def execLd_C_L (s : State) : Result :=
  .next ((s.loadOperand (.reg .c) (.reg .l)).advance (s.cost ⟨.primary, 0x4D⟩ 1))

/-- `LD C,(HL)` (4E): R186. -/
def execLd_C_atHL (s : State) : Result :=
  .next ((s.loadOperand (.reg .c) .atHL).advance (s.cost ⟨.primary, 0x4E⟩ 2))

/-- `LD C,A` (4F): R185. -/
def execLd_C_A (s : State) : Result :=
  .next ((s.loadOperand (.reg .c) (.reg .a)).advance (s.cost ⟨.primary, 0x4F⟩ 1))

/-- `LD D,B` (50): R185. -/
def execLd_D_B (s : State) : Result :=
  .next ((s.loadOperand (.reg .d) (.reg .b)).advance (s.cost ⟨.primary, 0x50⟩ 1))

/-- `LD D,C` (51): R185. -/
def execLd_D_C (s : State) : Result :=
  .next ((s.loadOperand (.reg .d) (.reg .c)).advance (s.cost ⟨.primary, 0x51⟩ 1))

/-- `LD D,D` (52): R185. -/
def execLd_D_D (s : State) : Result :=
  .next ((s.loadOperand (.reg .d) (.reg .d)).advance (s.cost ⟨.primary, 0x52⟩ 1))

/-- `LD D,E` (53): R185. -/
def execLd_D_E (s : State) : Result :=
  .next ((s.loadOperand (.reg .d) (.reg .e)).advance (s.cost ⟨.primary, 0x53⟩ 1))

/-- `LD D,H` (54): R185. -/
def execLd_D_H (s : State) : Result :=
  .next ((s.loadOperand (.reg .d) (.reg .h)).advance (s.cost ⟨.primary, 0x54⟩ 1))

/-- `LD D,L` (55): R185. -/
def execLd_D_L (s : State) : Result :=
  .next ((s.loadOperand (.reg .d) (.reg .l)).advance (s.cost ⟨.primary, 0x55⟩ 1))

/-- `LD D,(HL)` (56): R186. -/
def execLd_D_atHL (s : State) : Result :=
  .next ((s.loadOperand (.reg .d) .atHL).advance (s.cost ⟨.primary, 0x56⟩ 2))

/-- `LD D,A` (57): R185. -/
def execLd_D_A (s : State) : Result :=
  .next ((s.loadOperand (.reg .d) (.reg .a)).advance (s.cost ⟨.primary, 0x57⟩ 1))

/-- `LD E,B` (58): R185. -/
def execLd_E_B (s : State) : Result :=
  .next ((s.loadOperand (.reg .e) (.reg .b)).advance (s.cost ⟨.primary, 0x58⟩ 1))

/-- `LD E,C` (59): R185. -/
def execLd_E_C (s : State) : Result :=
  .next ((s.loadOperand (.reg .e) (.reg .c)).advance (s.cost ⟨.primary, 0x59⟩ 1))

/-- `LD E,D` (5A): R185. -/
def execLd_E_D (s : State) : Result :=
  .next ((s.loadOperand (.reg .e) (.reg .d)).advance (s.cost ⟨.primary, 0x5A⟩ 1))

/-- `LD E,E` (5B): R185. -/
def execLd_E_E (s : State) : Result :=
  .next ((s.loadOperand (.reg .e) (.reg .e)).advance (s.cost ⟨.primary, 0x5B⟩ 1))

/-- `LD E,H` (5C): R185. -/
def execLd_E_H (s : State) : Result :=
  .next ((s.loadOperand (.reg .e) (.reg .h)).advance (s.cost ⟨.primary, 0x5C⟩ 1))

/-- `LD E,L` (5D): R185. -/
def execLd_E_L (s : State) : Result :=
  .next ((s.loadOperand (.reg .e) (.reg .l)).advance (s.cost ⟨.primary, 0x5D⟩ 1))

/-- `LD E,(HL)` (5E): R186. -/
def execLd_E_atHL (s : State) : Result :=
  .next ((s.loadOperand (.reg .e) .atHL).advance (s.cost ⟨.primary, 0x5E⟩ 2))

/-- `LD E,A` (5F): R185. -/
def execLd_E_A (s : State) : Result :=
  .next ((s.loadOperand (.reg .e) (.reg .a)).advance (s.cost ⟨.primary, 0x5F⟩ 1))

/-- `LD H,B` (60): R185. -/
def execLd_H_B (s : State) : Result :=
  .next ((s.loadOperand (.reg .h) (.reg .b)).advance (s.cost ⟨.primary, 0x60⟩ 1))

/-- `LD H,C` (61): R185. -/
def execLd_H_C (s : State) : Result :=
  .next ((s.loadOperand (.reg .h) (.reg .c)).advance (s.cost ⟨.primary, 0x61⟩ 1))

/-- `LD H,D` (62): R185. -/
def execLd_H_D (s : State) : Result :=
  .next ((s.loadOperand (.reg .h) (.reg .d)).advance (s.cost ⟨.primary, 0x62⟩ 1))

/-- `LD H,E` (63): R185. -/
def execLd_H_E (s : State) : Result :=
  .next ((s.loadOperand (.reg .h) (.reg .e)).advance (s.cost ⟨.primary, 0x63⟩ 1))

/-- `LD H,H` (64): R185. -/
def execLd_H_H (s : State) : Result :=
  .next ((s.loadOperand (.reg .h) (.reg .h)).advance (s.cost ⟨.primary, 0x64⟩ 1))

/-- `LD H,L` (65): R185. -/
def execLd_H_L (s : State) : Result :=
  .next ((s.loadOperand (.reg .h) (.reg .l)).advance (s.cost ⟨.primary, 0x65⟩ 1))

/-- `LD H,(HL)` (66): R186. -/
def execLd_H_atHL (s : State) : Result :=
  .next ((s.loadOperand (.reg .h) .atHL).advance (s.cost ⟨.primary, 0x66⟩ 2))

/-- `LD H,A` (67): R185. -/
def execLd_H_A (s : State) : Result :=
  .next ((s.loadOperand (.reg .h) (.reg .a)).advance (s.cost ⟨.primary, 0x67⟩ 1))

/-- `LD L,B` (68): R185. -/
def execLd_L_B (s : State) : Result :=
  .next ((s.loadOperand (.reg .l) (.reg .b)).advance (s.cost ⟨.primary, 0x68⟩ 1))

/-- `LD L,C` (69): R185. -/
def execLd_L_C (s : State) : Result :=
  .next ((s.loadOperand (.reg .l) (.reg .c)).advance (s.cost ⟨.primary, 0x69⟩ 1))

/-- `LD L,D` (6A): R185. -/
def execLd_L_D (s : State) : Result :=
  .next ((s.loadOperand (.reg .l) (.reg .d)).advance (s.cost ⟨.primary, 0x6A⟩ 1))

/-- `LD L,E` (6B): R185. -/
def execLd_L_E (s : State) : Result :=
  .next ((s.loadOperand (.reg .l) (.reg .e)).advance (s.cost ⟨.primary, 0x6B⟩ 1))

/-- `LD L,H` (6C): R185. -/
def execLd_L_H (s : State) : Result :=
  .next ((s.loadOperand (.reg .l) (.reg .h)).advance (s.cost ⟨.primary, 0x6C⟩ 1))

/-- `LD L,L` (6D): R185. -/
def execLd_L_L (s : State) : Result :=
  .next ((s.loadOperand (.reg .l) (.reg .l)).advance (s.cost ⟨.primary, 0x6D⟩ 1))

/-- `LD L,(HL)` (6E): R186. -/
def execLd_L_atHL (s : State) : Result :=
  .next ((s.loadOperand (.reg .l) .atHL).advance (s.cost ⟨.primary, 0x6E⟩ 2))

/-- `LD L,A` (6F): R185. -/
def execLd_L_A (s : State) : Result :=
  .next ((s.loadOperand (.reg .l) (.reg .a)).advance (s.cost ⟨.primary, 0x6F⟩ 1))

/-- `LD (HL),B` (70): R187. -/
def execLd_atHL_B (s : State) : Result :=
  .next ((s.loadOperand .atHL (.reg .b)).advance (s.cost ⟨.primary, 0x70⟩ 2))

/-- `LD (HL),C` (71): R187. -/
def execLd_atHL_C (s : State) : Result :=
  .next ((s.loadOperand .atHL (.reg .c)).advance (s.cost ⟨.primary, 0x71⟩ 2))

/-- `LD (HL),D` (72): R187. -/
def execLd_atHL_D (s : State) : Result :=
  .next ((s.loadOperand .atHL (.reg .d)).advance (s.cost ⟨.primary, 0x72⟩ 2))

/-- `LD (HL),E` (73): R187. -/
def execLd_atHL_E (s : State) : Result :=
  .next ((s.loadOperand .atHL (.reg .e)).advance (s.cost ⟨.primary, 0x73⟩ 2))

/-- `LD (HL),H` (74): R187. -/
def execLd_atHL_H (s : State) : Result :=
  .next ((s.loadOperand .atHL (.reg .h)).advance (s.cost ⟨.primary, 0x74⟩ 2))

/-- `LD (HL),L` (75): R187. -/
def execLd_atHL_L (s : State) : Result :=
  .next ((s.loadOperand .atHL (.reg .l)).advance (s.cost ⟨.primary, 0x75⟩ 2))

/-- `LD (HL),A` (77): R187. -/
def execLd_atHL_A (s : State) : Result :=
  .next ((s.loadOperand .atHL (.reg .a)).advance (s.cost ⟨.primary, 0x77⟩ 2))

/-- `LD A,B` (78): R185. -/
def execLd_A_B (s : State) : Result :=
  .next ((s.loadOperand (.reg .a) (.reg .b)).advance (s.cost ⟨.primary, 0x78⟩ 1))

/-- `LD A,C` (79): R185. -/
def execLd_A_C (s : State) : Result :=
  .next ((s.loadOperand (.reg .a) (.reg .c)).advance (s.cost ⟨.primary, 0x79⟩ 1))

/-- `LD A,D` (7A): R185. -/
def execLd_A_D (s : State) : Result :=
  .next ((s.loadOperand (.reg .a) (.reg .d)).advance (s.cost ⟨.primary, 0x7A⟩ 1))

/-- `LD A,E` (7B): R185. -/
def execLd_A_E (s : State) : Result :=
  .next ((s.loadOperand (.reg .a) (.reg .e)).advance (s.cost ⟨.primary, 0x7B⟩ 1))

/-- `LD A,H` (7C): R185. -/
def execLd_A_H (s : State) : Result :=
  .next ((s.loadOperand (.reg .a) (.reg .h)).advance (s.cost ⟨.primary, 0x7C⟩ 1))

/-- `LD A,L` (7D): R185. -/
def execLd_A_L (s : State) : Result :=
  .next ((s.loadOperand (.reg .a) (.reg .l)).advance (s.cost ⟨.primary, 0x7D⟩ 1))

/-- `LD A,(HL)` (7E): R186. -/
def execLd_A_atHL (s : State) : Result :=
  .next ((s.loadOperand (.reg .a) .atHL).advance (s.cost ⟨.primary, 0x7E⟩ 2))

/-- `LD A,A` (7F): R185. -/
def execLd_A_A (s : State) : Result :=
  .next ((s.loadOperand (.reg .a) (.reg .a)).advance (s.cost ⟨.primary, 0x7F⟩ 1))

/-- `LD B,d8` (06): R188. -/
def execLd_B_d8 (n : Byte) (s : State) : Result :=
  .next ((s.write8 (.reg .b) n).advance (s.cost ⟨.primary, 0x06⟩ 2))

/-- `LD C,d8` (0E): R188. -/
def execLd_C_d8 (n : Byte) (s : State) : Result :=
  .next ((s.write8 (.reg .c) n).advance (s.cost ⟨.primary, 0x0E⟩ 2))

/-- `LD D,d8` (16): R188. -/
def execLd_D_d8 (n : Byte) (s : State) : Result :=
  .next ((s.write8 (.reg .d) n).advance (s.cost ⟨.primary, 0x16⟩ 2))

/-- `LD E,d8` (1E): R188. -/
def execLd_E_d8 (n : Byte) (s : State) : Result :=
  .next ((s.write8 (.reg .e) n).advance (s.cost ⟨.primary, 0x1E⟩ 2))

/-- `LD H,d8` (26): R188. -/
def execLd_H_d8 (n : Byte) (s : State) : Result :=
  .next ((s.write8 (.reg .h) n).advance (s.cost ⟨.primary, 0x26⟩ 2))

/-- `LD L,d8` (2E): R188. -/
def execLd_L_d8 (n : Byte) (s : State) : Result :=
  .next ((s.write8 (.reg .l) n).advance (s.cost ⟨.primary, 0x2E⟩ 2))

/-- `LD (HL),d8` (36): R189. -/
def execLd_atHL_d8 (n : Byte) (s : State) : Result :=
  .next ((s.write8 .atHL n).advance (s.cost ⟨.primary, 0x36⟩ 3))

/-- `LD A,d8` (3E): R188. -/
def execLd_A_d8 (n : Byte) (s : State) : Result :=
  .next ((s.write8 (.reg .a) n).advance (s.cost ⟨.primary, 0x3E⟩ 2))

/-- `LD (BC),A` (02): R190. -/
def execLd_atBC_A (s : State) : Result :=
  .next ((s.storeA .bc).advance (s.cost ⟨.primary, 0x02⟩ 2))

/-- `LD (DE),A` (12): R191. -/
def execLd_atDE_A (s : State) : Result :=
  .next ((s.storeA .de).advance (s.cost ⟨.primary, 0x12⟩ 2))

/-- `LD (HL+),A` (22): R194. -/
def execLd_atHLi_A (s : State) : Result :=
  .next ((s.storeA .hlInc).advance (s.cost ⟨.primary, 0x22⟩ 2))

/-- `LD (HL-),A` (32): R195. -/
def execLd_atHLd_A (s : State) : Result :=
  .next ((s.storeA .hlDec).advance (s.cost ⟨.primary, 0x32⟩ 2))

/-- `LD A,(BC)` (0A): R192. -/
def execLd_A_atBC (s : State) : Result :=
  .next ((s.loadA .bc).advance (s.cost ⟨.primary, 0x0A⟩ 2))

/-- `LD A,(DE)` (1A): R193. -/
def execLd_A_atDE (s : State) : Result :=
  .next ((s.loadA .de).advance (s.cost ⟨.primary, 0x1A⟩ 2))

/-- `LD A,(HL+)` (2A): R196. -/
def execLd_A_atHLi (s : State) : Result :=
  .next ((s.loadA .hlInc).advance (s.cost ⟨.primary, 0x2A⟩ 2))

/-- `LD A,(HL-)` (3A): R197. -/
def execLd_A_atHLd (s : State) : Result :=
  .next ((s.loadA .hlDec).advance (s.cost ⟨.primary, 0x3A⟩ 2))

/-- `LD (a16),A` (EA): R198. -/
def execLd_atA16_A (nn : Word) (s : State) : Result :=
  .next ((s.store nn s.a).advance (s.cost ⟨.primary, 0xEA⟩ 4))

/-- `LD A,(a16)` (FA): R199. -/
def execLd_A_atA16 (nn : Word) (s : State) : Result :=
  .next ((s.loadAAt nn).advance (s.cost ⟨.primary, 0xFA⟩ 4))

/-- `LDH (a8),A` (E0): R200. -/
def execLdh_atA8_A (n : Byte) (s : State) : Result :=
  .next ((s.store (highPage n) s.a).advance (s.cost ⟨.primary, 0xE0⟩ 3))

/-- `LDH A,(a8)` (F0): R201. -/
def execLdh_A_atA8 (n : Byte) (s : State) : Result :=
  .next ((s.loadAAt (highPage n)).advance (s.cost ⟨.primary, 0xF0⟩ 3))

/-- `LD (C),A` (E2): R202. -/
def execLd_atC_A (s : State) : Result :=
  .next ((s.store (highPage s.c) s.a).advance (s.cost ⟨.primary, 0xE2⟩ 2))

/-- `LD A,(C)` (F2): R203. -/
def execLd_A_atC (s : State) : Result :=
  .next ((s.loadAAt (highPage s.c)).advance (s.cost ⟨.primary, 0xF2⟩ 2))

/-- `LD (a16),SP` (08): R205. -/
def execLd_atA16_SP (nn : Word) (s : State) : Result :=
  .next ((s.storeWord nn s.sp).advance (s.cost ⟨.primary, 0x08⟩ 5))

/-- `LD SP,HL` (F9): R206. -/
def execLd_SP_HL (s : State) : Result :=
  .next ((s.setSP s.hl).advance (s.cost ⟨.primary, 0xF9⟩ 2))

/-- `LD BC,d16` (01): R204. -/
def execLd_BC_d16 (nn : Word) (s : State) : Result :=
  .next ((s.setReg16 .bc nn).advance (s.cost ⟨.primary, 0x01⟩ 3))

/-- `LD DE,d16` (11): R204. -/
def execLd_DE_d16 (nn : Word) (s : State) : Result :=
  .next ((s.setReg16 .de nn).advance (s.cost ⟨.primary, 0x11⟩ 3))

/-- `LD HL,d16` (21): R204. -/
def execLd_HL_d16 (nn : Word) (s : State) : Result :=
  .next ((s.setReg16 .hl nn).advance (s.cost ⟨.primary, 0x21⟩ 3))

/-- `LD SP,d16` (31): R204. -/
def execLd_SP_d16 (nn : Word) (s : State) : Result :=
  .next ((s.setReg16 .sp nn).advance (s.cost ⟨.primary, 0x31⟩ 3))

end Sys2Proof.Machine
end

