-- ==== Sys2Proof/Machine/BitOps.lean ====
section
/-! DEFINITION. Bit test, reset and set (43_bit.md): the shared operations, then one meaning per instruction. -/

namespace Sys2Proof.Machine

/-! ### Shared operations -/

/-- BIT b: Z the complement of the bit, N 0, H 1, C kept; the operand is not written (R159, R160). -/
def State.bitOperand (s : State) (b : Fin 8) (o : Operand8) : State :=
  let (v, s1) := s.read8 o
  s1.writeZNH ⟨!v.getLsbD b.val, false, true, false⟩

/-- RES b: no flag (R161, R162). -/
def State.resOperand (s : State) (b : Fin 8) (o : Operand8) : State :=
  let (v, s1) := s.read8 o
  s1.write8 o (v &&& ~~~bitMask b)

/-- SET b: no flag (R163, R164). -/
def State.setOperand (s : State) (b : Fin 8) (o : Operand8) : State :=
  let (v, s1) := s.read8 o
  s1.write8 o (v ||| bitMask b)

/-! ### The instructions -/

/-- `BIT 0,B` (CB 40): R159. -/
def execBit_0_B (s : State) : Result :=
  .next ((s.bitOperand 0 (.reg .b)).advance (s.cost ⟨.cb, 0x40⟩ 2))

/-- `BIT 0,C` (CB 41): R159. -/
def execBit_0_C (s : State) : Result :=
  .next ((s.bitOperand 0 (.reg .c)).advance (s.cost ⟨.cb, 0x41⟩ 2))

/-- `BIT 0,D` (CB 42): R159. -/
def execBit_0_D (s : State) : Result :=
  .next ((s.bitOperand 0 (.reg .d)).advance (s.cost ⟨.cb, 0x42⟩ 2))

/-- `BIT 0,E` (CB 43): R159. -/
def execBit_0_E (s : State) : Result :=
  .next ((s.bitOperand 0 (.reg .e)).advance (s.cost ⟨.cb, 0x43⟩ 2))

/-- `BIT 0,H` (CB 44): R159. -/
def execBit_0_H (s : State) : Result :=
  .next ((s.bitOperand 0 (.reg .h)).advance (s.cost ⟨.cb, 0x44⟩ 2))

/-- `BIT 0,L` (CB 45): R159. -/
def execBit_0_L (s : State) : Result :=
  .next ((s.bitOperand 0 (.reg .l)).advance (s.cost ⟨.cb, 0x45⟩ 2))

/-- `BIT 0,(HL)` (CB 46): R160. -/
def execBit_0_atHL (s : State) : Result :=
  .next ((s.bitOperand 0 .atHL).advance (s.cost ⟨.cb, 0x46⟩ 3))

/-- `BIT 0,A` (CB 47): R159. -/
def execBit_0_A (s : State) : Result :=
  .next ((s.bitOperand 0 (.reg .a)).advance (s.cost ⟨.cb, 0x47⟩ 2))

/-- `BIT 1,B` (CB 48): R159. -/
def execBit_1_B (s : State) : Result :=
  .next ((s.bitOperand 1 (.reg .b)).advance (s.cost ⟨.cb, 0x48⟩ 2))

/-- `BIT 1,C` (CB 49): R159. -/
def execBit_1_C (s : State) : Result :=
  .next ((s.bitOperand 1 (.reg .c)).advance (s.cost ⟨.cb, 0x49⟩ 2))

/-- `BIT 1,D` (CB 4A): R159. -/
def execBit_1_D (s : State) : Result :=
  .next ((s.bitOperand 1 (.reg .d)).advance (s.cost ⟨.cb, 0x4A⟩ 2))

/-- `BIT 1,E` (CB 4B): R159. -/
def execBit_1_E (s : State) : Result :=
  .next ((s.bitOperand 1 (.reg .e)).advance (s.cost ⟨.cb, 0x4B⟩ 2))

/-- `BIT 1,H` (CB 4C): R159. -/
def execBit_1_H (s : State) : Result :=
  .next ((s.bitOperand 1 (.reg .h)).advance (s.cost ⟨.cb, 0x4C⟩ 2))

/-- `BIT 1,L` (CB 4D): R159. -/
def execBit_1_L (s : State) : Result :=
  .next ((s.bitOperand 1 (.reg .l)).advance (s.cost ⟨.cb, 0x4D⟩ 2))

/-- `BIT 1,(HL)` (CB 4E): R160. -/
def execBit_1_atHL (s : State) : Result :=
  .next ((s.bitOperand 1 .atHL).advance (s.cost ⟨.cb, 0x4E⟩ 3))

/-- `BIT 1,A` (CB 4F): R159. -/
def execBit_1_A (s : State) : Result :=
  .next ((s.bitOperand 1 (.reg .a)).advance (s.cost ⟨.cb, 0x4F⟩ 2))

/-- `BIT 2,B` (CB 50): R159. -/
def execBit_2_B (s : State) : Result :=
  .next ((s.bitOperand 2 (.reg .b)).advance (s.cost ⟨.cb, 0x50⟩ 2))

/-- `BIT 2,C` (CB 51): R159. -/
def execBit_2_C (s : State) : Result :=
  .next ((s.bitOperand 2 (.reg .c)).advance (s.cost ⟨.cb, 0x51⟩ 2))

/-- `BIT 2,D` (CB 52): R159. -/
def execBit_2_D (s : State) : Result :=
  .next ((s.bitOperand 2 (.reg .d)).advance (s.cost ⟨.cb, 0x52⟩ 2))

/-- `BIT 2,E` (CB 53): R159. -/
def execBit_2_E (s : State) : Result :=
  .next ((s.bitOperand 2 (.reg .e)).advance (s.cost ⟨.cb, 0x53⟩ 2))

/-- `BIT 2,H` (CB 54): R159. -/
def execBit_2_H (s : State) : Result :=
  .next ((s.bitOperand 2 (.reg .h)).advance (s.cost ⟨.cb, 0x54⟩ 2))

/-- `BIT 2,L` (CB 55): R159. -/
def execBit_2_L (s : State) : Result :=
  .next ((s.bitOperand 2 (.reg .l)).advance (s.cost ⟨.cb, 0x55⟩ 2))

/-- `BIT 2,(HL)` (CB 56): R160. -/
def execBit_2_atHL (s : State) : Result :=
  .next ((s.bitOperand 2 .atHL).advance (s.cost ⟨.cb, 0x56⟩ 3))

/-- `BIT 2,A` (CB 57): R159. -/
def execBit_2_A (s : State) : Result :=
  .next ((s.bitOperand 2 (.reg .a)).advance (s.cost ⟨.cb, 0x57⟩ 2))

/-- `BIT 3,B` (CB 58): R159. -/
def execBit_3_B (s : State) : Result :=
  .next ((s.bitOperand 3 (.reg .b)).advance (s.cost ⟨.cb, 0x58⟩ 2))

/-- `BIT 3,C` (CB 59): R159. -/
def execBit_3_C (s : State) : Result :=
  .next ((s.bitOperand 3 (.reg .c)).advance (s.cost ⟨.cb, 0x59⟩ 2))

/-- `BIT 3,D` (CB 5A): R159. -/
def execBit_3_D (s : State) : Result :=
  .next ((s.bitOperand 3 (.reg .d)).advance (s.cost ⟨.cb, 0x5A⟩ 2))

/-- `BIT 3,E` (CB 5B): R159. -/
def execBit_3_E (s : State) : Result :=
  .next ((s.bitOperand 3 (.reg .e)).advance (s.cost ⟨.cb, 0x5B⟩ 2))

/-- `BIT 3,H` (CB 5C): R159. -/
def execBit_3_H (s : State) : Result :=
  .next ((s.bitOperand 3 (.reg .h)).advance (s.cost ⟨.cb, 0x5C⟩ 2))

/-- `BIT 3,L` (CB 5D): R159. -/
def execBit_3_L (s : State) : Result :=
  .next ((s.bitOperand 3 (.reg .l)).advance (s.cost ⟨.cb, 0x5D⟩ 2))

/-- `BIT 3,(HL)` (CB 5E): R160. -/
def execBit_3_atHL (s : State) : Result :=
  .next ((s.bitOperand 3 .atHL).advance (s.cost ⟨.cb, 0x5E⟩ 3))

/-- `BIT 3,A` (CB 5F): R159. -/
def execBit_3_A (s : State) : Result :=
  .next ((s.bitOperand 3 (.reg .a)).advance (s.cost ⟨.cb, 0x5F⟩ 2))

/-- `BIT 4,B` (CB 60): R159. -/
def execBit_4_B (s : State) : Result :=
  .next ((s.bitOperand 4 (.reg .b)).advance (s.cost ⟨.cb, 0x60⟩ 2))

/-- `BIT 4,C` (CB 61): R159. -/
def execBit_4_C (s : State) : Result :=
  .next ((s.bitOperand 4 (.reg .c)).advance (s.cost ⟨.cb, 0x61⟩ 2))

/-- `BIT 4,D` (CB 62): R159. -/
def execBit_4_D (s : State) : Result :=
  .next ((s.bitOperand 4 (.reg .d)).advance (s.cost ⟨.cb, 0x62⟩ 2))

/-- `BIT 4,E` (CB 63): R159. -/
def execBit_4_E (s : State) : Result :=
  .next ((s.bitOperand 4 (.reg .e)).advance (s.cost ⟨.cb, 0x63⟩ 2))

/-- `BIT 4,H` (CB 64): R159. -/
def execBit_4_H (s : State) : Result :=
  .next ((s.bitOperand 4 (.reg .h)).advance (s.cost ⟨.cb, 0x64⟩ 2))

/-- `BIT 4,L` (CB 65): R159. -/
def execBit_4_L (s : State) : Result :=
  .next ((s.bitOperand 4 (.reg .l)).advance (s.cost ⟨.cb, 0x65⟩ 2))

/-- `BIT 4,(HL)` (CB 66): R160. -/
def execBit_4_atHL (s : State) : Result :=
  .next ((s.bitOperand 4 .atHL).advance (s.cost ⟨.cb, 0x66⟩ 3))

/-- `BIT 4,A` (CB 67): R159. -/
def execBit_4_A (s : State) : Result :=
  .next ((s.bitOperand 4 (.reg .a)).advance (s.cost ⟨.cb, 0x67⟩ 2))

/-- `BIT 5,B` (CB 68): R159. -/
def execBit_5_B (s : State) : Result :=
  .next ((s.bitOperand 5 (.reg .b)).advance (s.cost ⟨.cb, 0x68⟩ 2))

/-- `BIT 5,C` (CB 69): R159. -/
def execBit_5_C (s : State) : Result :=
  .next ((s.bitOperand 5 (.reg .c)).advance (s.cost ⟨.cb, 0x69⟩ 2))

/-- `BIT 5,D` (CB 6A): R159. -/
def execBit_5_D (s : State) : Result :=
  .next ((s.bitOperand 5 (.reg .d)).advance (s.cost ⟨.cb, 0x6A⟩ 2))

/-- `BIT 5,E` (CB 6B): R159. -/
def execBit_5_E (s : State) : Result :=
  .next ((s.bitOperand 5 (.reg .e)).advance (s.cost ⟨.cb, 0x6B⟩ 2))

/-- `BIT 5,H` (CB 6C): R159. -/
def execBit_5_H (s : State) : Result :=
  .next ((s.bitOperand 5 (.reg .h)).advance (s.cost ⟨.cb, 0x6C⟩ 2))

/-- `BIT 5,L` (CB 6D): R159. -/
def execBit_5_L (s : State) : Result :=
  .next ((s.bitOperand 5 (.reg .l)).advance (s.cost ⟨.cb, 0x6D⟩ 2))

/-- `BIT 5,(HL)` (CB 6E): R160. -/
def execBit_5_atHL (s : State) : Result :=
  .next ((s.bitOperand 5 .atHL).advance (s.cost ⟨.cb, 0x6E⟩ 3))

/-- `BIT 5,A` (CB 6F): R159. -/
def execBit_5_A (s : State) : Result :=
  .next ((s.bitOperand 5 (.reg .a)).advance (s.cost ⟨.cb, 0x6F⟩ 2))

/-- `BIT 6,B` (CB 70): R159. -/
def execBit_6_B (s : State) : Result :=
  .next ((s.bitOperand 6 (.reg .b)).advance (s.cost ⟨.cb, 0x70⟩ 2))

/-- `BIT 6,C` (CB 71): R159. -/
def execBit_6_C (s : State) : Result :=
  .next ((s.bitOperand 6 (.reg .c)).advance (s.cost ⟨.cb, 0x71⟩ 2))

/-- `BIT 6,D` (CB 72): R159. -/
def execBit_6_D (s : State) : Result :=
  .next ((s.bitOperand 6 (.reg .d)).advance (s.cost ⟨.cb, 0x72⟩ 2))

/-- `BIT 6,E` (CB 73): R159. -/
def execBit_6_E (s : State) : Result :=
  .next ((s.bitOperand 6 (.reg .e)).advance (s.cost ⟨.cb, 0x73⟩ 2))

/-- `BIT 6,H` (CB 74): R159. -/
def execBit_6_H (s : State) : Result :=
  .next ((s.bitOperand 6 (.reg .h)).advance (s.cost ⟨.cb, 0x74⟩ 2))

/-- `BIT 6,L` (CB 75): R159. -/
def execBit_6_L (s : State) : Result :=
  .next ((s.bitOperand 6 (.reg .l)).advance (s.cost ⟨.cb, 0x75⟩ 2))

/-- `BIT 6,(HL)` (CB 76): R160. -/
def execBit_6_atHL (s : State) : Result :=
  .next ((s.bitOperand 6 .atHL).advance (s.cost ⟨.cb, 0x76⟩ 3))

/-- `BIT 6,A` (CB 77): R159. -/
def execBit_6_A (s : State) : Result :=
  .next ((s.bitOperand 6 (.reg .a)).advance (s.cost ⟨.cb, 0x77⟩ 2))

/-- `BIT 7,B` (CB 78): R159. -/
def execBit_7_B (s : State) : Result :=
  .next ((s.bitOperand 7 (.reg .b)).advance (s.cost ⟨.cb, 0x78⟩ 2))

/-- `BIT 7,C` (CB 79): R159. -/
def execBit_7_C (s : State) : Result :=
  .next ((s.bitOperand 7 (.reg .c)).advance (s.cost ⟨.cb, 0x79⟩ 2))

/-- `BIT 7,D` (CB 7A): R159. -/
def execBit_7_D (s : State) : Result :=
  .next ((s.bitOperand 7 (.reg .d)).advance (s.cost ⟨.cb, 0x7A⟩ 2))

/-- `BIT 7,E` (CB 7B): R159. -/
def execBit_7_E (s : State) : Result :=
  .next ((s.bitOperand 7 (.reg .e)).advance (s.cost ⟨.cb, 0x7B⟩ 2))

/-- `BIT 7,H` (CB 7C): R159. -/
def execBit_7_H (s : State) : Result :=
  .next ((s.bitOperand 7 (.reg .h)).advance (s.cost ⟨.cb, 0x7C⟩ 2))

/-- `BIT 7,L` (CB 7D): R159. -/
def execBit_7_L (s : State) : Result :=
  .next ((s.bitOperand 7 (.reg .l)).advance (s.cost ⟨.cb, 0x7D⟩ 2))

/-- `BIT 7,(HL)` (CB 7E): R160. -/
def execBit_7_atHL (s : State) : Result :=
  .next ((s.bitOperand 7 .atHL).advance (s.cost ⟨.cb, 0x7E⟩ 3))

/-- `BIT 7,A` (CB 7F): R159. -/
def execBit_7_A (s : State) : Result :=
  .next ((s.bitOperand 7 (.reg .a)).advance (s.cost ⟨.cb, 0x7F⟩ 2))

/-- `RES 0,B` (CB 80): R161. -/
def execRes_0_B (s : State) : Result :=
  .next ((s.resOperand 0 (.reg .b)).advance (s.cost ⟨.cb, 0x80⟩ 2))

/-- `RES 0,C` (CB 81): R161. -/
def execRes_0_C (s : State) : Result :=
  .next ((s.resOperand 0 (.reg .c)).advance (s.cost ⟨.cb, 0x81⟩ 2))

/-- `RES 0,D` (CB 82): R161. -/
def execRes_0_D (s : State) : Result :=
  .next ((s.resOperand 0 (.reg .d)).advance (s.cost ⟨.cb, 0x82⟩ 2))

/-- `RES 0,E` (CB 83): R161. -/
def execRes_0_E (s : State) : Result :=
  .next ((s.resOperand 0 (.reg .e)).advance (s.cost ⟨.cb, 0x83⟩ 2))

/-- `RES 0,H` (CB 84): R161. -/
def execRes_0_H (s : State) : Result :=
  .next ((s.resOperand 0 (.reg .h)).advance (s.cost ⟨.cb, 0x84⟩ 2))

/-- `RES 0,L` (CB 85): R161. -/
def execRes_0_L (s : State) : Result :=
  .next ((s.resOperand 0 (.reg .l)).advance (s.cost ⟨.cb, 0x85⟩ 2))

/-- `RES 0,(HL)` (CB 86): R162. -/
def execRes_0_atHL (s : State) : Result :=
  .next ((s.resOperand 0 .atHL).advance (s.cost ⟨.cb, 0x86⟩ 4))

/-- `RES 0,A` (CB 87): R161. -/
def execRes_0_A (s : State) : Result :=
  .next ((s.resOperand 0 (.reg .a)).advance (s.cost ⟨.cb, 0x87⟩ 2))

/-- `RES 1,B` (CB 88): R161. -/
def execRes_1_B (s : State) : Result :=
  .next ((s.resOperand 1 (.reg .b)).advance (s.cost ⟨.cb, 0x88⟩ 2))

/-- `RES 1,C` (CB 89): R161. -/
def execRes_1_C (s : State) : Result :=
  .next ((s.resOperand 1 (.reg .c)).advance (s.cost ⟨.cb, 0x89⟩ 2))

/-- `RES 1,D` (CB 8A): R161. -/
def execRes_1_D (s : State) : Result :=
  .next ((s.resOperand 1 (.reg .d)).advance (s.cost ⟨.cb, 0x8A⟩ 2))

/-- `RES 1,E` (CB 8B): R161. -/
def execRes_1_E (s : State) : Result :=
  .next ((s.resOperand 1 (.reg .e)).advance (s.cost ⟨.cb, 0x8B⟩ 2))

/-- `RES 1,H` (CB 8C): R161. -/
def execRes_1_H (s : State) : Result :=
  .next ((s.resOperand 1 (.reg .h)).advance (s.cost ⟨.cb, 0x8C⟩ 2))

/-- `RES 1,L` (CB 8D): R161. -/
def execRes_1_L (s : State) : Result :=
  .next ((s.resOperand 1 (.reg .l)).advance (s.cost ⟨.cb, 0x8D⟩ 2))

/-- `RES 1,(HL)` (CB 8E): R162. -/
def execRes_1_atHL (s : State) : Result :=
  .next ((s.resOperand 1 .atHL).advance (s.cost ⟨.cb, 0x8E⟩ 4))

/-- `RES 1,A` (CB 8F): R161. -/
def execRes_1_A (s : State) : Result :=
  .next ((s.resOperand 1 (.reg .a)).advance (s.cost ⟨.cb, 0x8F⟩ 2))

/-- `RES 2,B` (CB 90): R161. -/
def execRes_2_B (s : State) : Result :=
  .next ((s.resOperand 2 (.reg .b)).advance (s.cost ⟨.cb, 0x90⟩ 2))

/-- `RES 2,C` (CB 91): R161. -/
def execRes_2_C (s : State) : Result :=
  .next ((s.resOperand 2 (.reg .c)).advance (s.cost ⟨.cb, 0x91⟩ 2))

/-- `RES 2,D` (CB 92): R161. -/
def execRes_2_D (s : State) : Result :=
  .next ((s.resOperand 2 (.reg .d)).advance (s.cost ⟨.cb, 0x92⟩ 2))

/-- `RES 2,E` (CB 93): R161. -/
def execRes_2_E (s : State) : Result :=
  .next ((s.resOperand 2 (.reg .e)).advance (s.cost ⟨.cb, 0x93⟩ 2))

/-- `RES 2,H` (CB 94): R161. -/
def execRes_2_H (s : State) : Result :=
  .next ((s.resOperand 2 (.reg .h)).advance (s.cost ⟨.cb, 0x94⟩ 2))

/-- `RES 2,L` (CB 95): R161. -/
def execRes_2_L (s : State) : Result :=
  .next ((s.resOperand 2 (.reg .l)).advance (s.cost ⟨.cb, 0x95⟩ 2))

/-- `RES 2,(HL)` (CB 96): R162. -/
def execRes_2_atHL (s : State) : Result :=
  .next ((s.resOperand 2 .atHL).advance (s.cost ⟨.cb, 0x96⟩ 4))

/-- `RES 2,A` (CB 97): R161. -/
def execRes_2_A (s : State) : Result :=
  .next ((s.resOperand 2 (.reg .a)).advance (s.cost ⟨.cb, 0x97⟩ 2))

/-- `RES 3,B` (CB 98): R161. -/
def execRes_3_B (s : State) : Result :=
  .next ((s.resOperand 3 (.reg .b)).advance (s.cost ⟨.cb, 0x98⟩ 2))

/-- `RES 3,C` (CB 99): R161. -/
def execRes_3_C (s : State) : Result :=
  .next ((s.resOperand 3 (.reg .c)).advance (s.cost ⟨.cb, 0x99⟩ 2))

/-- `RES 3,D` (CB 9A): R161. -/
def execRes_3_D (s : State) : Result :=
  .next ((s.resOperand 3 (.reg .d)).advance (s.cost ⟨.cb, 0x9A⟩ 2))

/-- `RES 3,E` (CB 9B): R161. -/
def execRes_3_E (s : State) : Result :=
  .next ((s.resOperand 3 (.reg .e)).advance (s.cost ⟨.cb, 0x9B⟩ 2))

/-- `RES 3,H` (CB 9C): R161. -/
def execRes_3_H (s : State) : Result :=
  .next ((s.resOperand 3 (.reg .h)).advance (s.cost ⟨.cb, 0x9C⟩ 2))

/-- `RES 3,L` (CB 9D): R161. -/
def execRes_3_L (s : State) : Result :=
  .next ((s.resOperand 3 (.reg .l)).advance (s.cost ⟨.cb, 0x9D⟩ 2))

/-- `RES 3,(HL)` (CB 9E): R162. -/
def execRes_3_atHL (s : State) : Result :=
  .next ((s.resOperand 3 .atHL).advance (s.cost ⟨.cb, 0x9E⟩ 4))

/-- `RES 3,A` (CB 9F): R161. -/
def execRes_3_A (s : State) : Result :=
  .next ((s.resOperand 3 (.reg .a)).advance (s.cost ⟨.cb, 0x9F⟩ 2))

/-- `RES 4,B` (CB A0): R161. -/
def execRes_4_B (s : State) : Result :=
  .next ((s.resOperand 4 (.reg .b)).advance (s.cost ⟨.cb, 0xA0⟩ 2))

/-- `RES 4,C` (CB A1): R161. -/
def execRes_4_C (s : State) : Result :=
  .next ((s.resOperand 4 (.reg .c)).advance (s.cost ⟨.cb, 0xA1⟩ 2))

/-- `RES 4,D` (CB A2): R161. -/
def execRes_4_D (s : State) : Result :=
  .next ((s.resOperand 4 (.reg .d)).advance (s.cost ⟨.cb, 0xA2⟩ 2))

/-- `RES 4,E` (CB A3): R161. -/
def execRes_4_E (s : State) : Result :=
  .next ((s.resOperand 4 (.reg .e)).advance (s.cost ⟨.cb, 0xA3⟩ 2))

/-- `RES 4,H` (CB A4): R161. -/
def execRes_4_H (s : State) : Result :=
  .next ((s.resOperand 4 (.reg .h)).advance (s.cost ⟨.cb, 0xA4⟩ 2))

/-- `RES 4,L` (CB A5): R161. -/
def execRes_4_L (s : State) : Result :=
  .next ((s.resOperand 4 (.reg .l)).advance (s.cost ⟨.cb, 0xA5⟩ 2))

/-- `RES 4,(HL)` (CB A6): R162. -/
def execRes_4_atHL (s : State) : Result :=
  .next ((s.resOperand 4 .atHL).advance (s.cost ⟨.cb, 0xA6⟩ 4))

/-- `RES 4,A` (CB A7): R161. -/
def execRes_4_A (s : State) : Result :=
  .next ((s.resOperand 4 (.reg .a)).advance (s.cost ⟨.cb, 0xA7⟩ 2))

/-- `RES 5,B` (CB A8): R161. -/
def execRes_5_B (s : State) : Result :=
  .next ((s.resOperand 5 (.reg .b)).advance (s.cost ⟨.cb, 0xA8⟩ 2))

/-- `RES 5,C` (CB A9): R161. -/
def execRes_5_C (s : State) : Result :=
  .next ((s.resOperand 5 (.reg .c)).advance (s.cost ⟨.cb, 0xA9⟩ 2))

/-- `RES 5,D` (CB AA): R161. -/
def execRes_5_D (s : State) : Result :=
  .next ((s.resOperand 5 (.reg .d)).advance (s.cost ⟨.cb, 0xAA⟩ 2))

/-- `RES 5,E` (CB AB): R161. -/
def execRes_5_E (s : State) : Result :=
  .next ((s.resOperand 5 (.reg .e)).advance (s.cost ⟨.cb, 0xAB⟩ 2))

/-- `RES 5,H` (CB AC): R161. -/
def execRes_5_H (s : State) : Result :=
  .next ((s.resOperand 5 (.reg .h)).advance (s.cost ⟨.cb, 0xAC⟩ 2))

/-- `RES 5,L` (CB AD): R161. -/
def execRes_5_L (s : State) : Result :=
  .next ((s.resOperand 5 (.reg .l)).advance (s.cost ⟨.cb, 0xAD⟩ 2))

/-- `RES 5,(HL)` (CB AE): R162. -/
def execRes_5_atHL (s : State) : Result :=
  .next ((s.resOperand 5 .atHL).advance (s.cost ⟨.cb, 0xAE⟩ 4))

/-- `RES 5,A` (CB AF): R161. -/
def execRes_5_A (s : State) : Result :=
  .next ((s.resOperand 5 (.reg .a)).advance (s.cost ⟨.cb, 0xAF⟩ 2))

/-- `RES 6,B` (CB B0): R161. -/
def execRes_6_B (s : State) : Result :=
  .next ((s.resOperand 6 (.reg .b)).advance (s.cost ⟨.cb, 0xB0⟩ 2))

/-- `RES 6,C` (CB B1): R161. -/
def execRes_6_C (s : State) : Result :=
  .next ((s.resOperand 6 (.reg .c)).advance (s.cost ⟨.cb, 0xB1⟩ 2))

/-- `RES 6,D` (CB B2): R161. -/
def execRes_6_D (s : State) : Result :=
  .next ((s.resOperand 6 (.reg .d)).advance (s.cost ⟨.cb, 0xB2⟩ 2))

/-- `RES 6,E` (CB B3): R161. -/
def execRes_6_E (s : State) : Result :=
  .next ((s.resOperand 6 (.reg .e)).advance (s.cost ⟨.cb, 0xB3⟩ 2))

/-- `RES 6,H` (CB B4): R161. -/
def execRes_6_H (s : State) : Result :=
  .next ((s.resOperand 6 (.reg .h)).advance (s.cost ⟨.cb, 0xB4⟩ 2))

/-- `RES 6,L` (CB B5): R161. -/
def execRes_6_L (s : State) : Result :=
  .next ((s.resOperand 6 (.reg .l)).advance (s.cost ⟨.cb, 0xB5⟩ 2))

/-- `RES 6,(HL)` (CB B6): R162. -/
def execRes_6_atHL (s : State) : Result :=
  .next ((s.resOperand 6 .atHL).advance (s.cost ⟨.cb, 0xB6⟩ 4))

/-- `RES 6,A` (CB B7): R161. -/
def execRes_6_A (s : State) : Result :=
  .next ((s.resOperand 6 (.reg .a)).advance (s.cost ⟨.cb, 0xB7⟩ 2))

/-- `RES 7,B` (CB B8): R161. -/
def execRes_7_B (s : State) : Result :=
  .next ((s.resOperand 7 (.reg .b)).advance (s.cost ⟨.cb, 0xB8⟩ 2))

/-- `RES 7,C` (CB B9): R161. -/
def execRes_7_C (s : State) : Result :=
  .next ((s.resOperand 7 (.reg .c)).advance (s.cost ⟨.cb, 0xB9⟩ 2))

/-- `RES 7,D` (CB BA): R161. -/
def execRes_7_D (s : State) : Result :=
  .next ((s.resOperand 7 (.reg .d)).advance (s.cost ⟨.cb, 0xBA⟩ 2))

/-- `RES 7,E` (CB BB): R161. -/
def execRes_7_E (s : State) : Result :=
  .next ((s.resOperand 7 (.reg .e)).advance (s.cost ⟨.cb, 0xBB⟩ 2))

/-- `RES 7,H` (CB BC): R161. -/
def execRes_7_H (s : State) : Result :=
  .next ((s.resOperand 7 (.reg .h)).advance (s.cost ⟨.cb, 0xBC⟩ 2))

/-- `RES 7,L` (CB BD): R161. -/
def execRes_7_L (s : State) : Result :=
  .next ((s.resOperand 7 (.reg .l)).advance (s.cost ⟨.cb, 0xBD⟩ 2))

/-- `RES 7,(HL)` (CB BE): R162. -/
def execRes_7_atHL (s : State) : Result :=
  .next ((s.resOperand 7 .atHL).advance (s.cost ⟨.cb, 0xBE⟩ 4))

/-- `RES 7,A` (CB BF): R161. -/
def execRes_7_A (s : State) : Result :=
  .next ((s.resOperand 7 (.reg .a)).advance (s.cost ⟨.cb, 0xBF⟩ 2))

/-- `SET 0,B` (CB C0): R163. -/
def execSet_0_B (s : State) : Result :=
  .next ((s.setOperand 0 (.reg .b)).advance (s.cost ⟨.cb, 0xC0⟩ 2))

/-- `SET 0,C` (CB C1): R163. -/
def execSet_0_C (s : State) : Result :=
  .next ((s.setOperand 0 (.reg .c)).advance (s.cost ⟨.cb, 0xC1⟩ 2))

/-- `SET 0,D` (CB C2): R163. -/
def execSet_0_D (s : State) : Result :=
  .next ((s.setOperand 0 (.reg .d)).advance (s.cost ⟨.cb, 0xC2⟩ 2))

/-- `SET 0,E` (CB C3): R163. -/
def execSet_0_E (s : State) : Result :=
  .next ((s.setOperand 0 (.reg .e)).advance (s.cost ⟨.cb, 0xC3⟩ 2))

/-- `SET 0,H` (CB C4): R163. -/
def execSet_0_H (s : State) : Result :=
  .next ((s.setOperand 0 (.reg .h)).advance (s.cost ⟨.cb, 0xC4⟩ 2))

/-- `SET 0,L` (CB C5): R163. -/
def execSet_0_L (s : State) : Result :=
  .next ((s.setOperand 0 (.reg .l)).advance (s.cost ⟨.cb, 0xC5⟩ 2))

/-- `SET 0,(HL)` (CB C6): R164. -/
def execSet_0_atHL (s : State) : Result :=
  .next ((s.setOperand 0 .atHL).advance (s.cost ⟨.cb, 0xC6⟩ 4))

/-- `SET 0,A` (CB C7): R163. -/
def execSet_0_A (s : State) : Result :=
  .next ((s.setOperand 0 (.reg .a)).advance (s.cost ⟨.cb, 0xC7⟩ 2))

/-- `SET 1,B` (CB C8): R163. -/
def execSet_1_B (s : State) : Result :=
  .next ((s.setOperand 1 (.reg .b)).advance (s.cost ⟨.cb, 0xC8⟩ 2))

/-- `SET 1,C` (CB C9): R163. -/
def execSet_1_C (s : State) : Result :=
  .next ((s.setOperand 1 (.reg .c)).advance (s.cost ⟨.cb, 0xC9⟩ 2))

/-- `SET 1,D` (CB CA): R163. -/
def execSet_1_D (s : State) : Result :=
  .next ((s.setOperand 1 (.reg .d)).advance (s.cost ⟨.cb, 0xCA⟩ 2))

/-- `SET 1,E` (CB CB): R163. -/
def execSet_1_E (s : State) : Result :=
  .next ((s.setOperand 1 (.reg .e)).advance (s.cost ⟨.cb, 0xCB⟩ 2))

/-- `SET 1,H` (CB CC): R163. -/
def execSet_1_H (s : State) : Result :=
  .next ((s.setOperand 1 (.reg .h)).advance (s.cost ⟨.cb, 0xCC⟩ 2))

/-- `SET 1,L` (CB CD): R163. -/
def execSet_1_L (s : State) : Result :=
  .next ((s.setOperand 1 (.reg .l)).advance (s.cost ⟨.cb, 0xCD⟩ 2))

/-- `SET 1,(HL)` (CB CE): R164. -/
def execSet_1_atHL (s : State) : Result :=
  .next ((s.setOperand 1 .atHL).advance (s.cost ⟨.cb, 0xCE⟩ 4))

/-- `SET 1,A` (CB CF): R163. -/
def execSet_1_A (s : State) : Result :=
  .next ((s.setOperand 1 (.reg .a)).advance (s.cost ⟨.cb, 0xCF⟩ 2))

/-- `SET 2,B` (CB D0): R163. -/
def execSet_2_B (s : State) : Result :=
  .next ((s.setOperand 2 (.reg .b)).advance (s.cost ⟨.cb, 0xD0⟩ 2))

/-- `SET 2,C` (CB D1): R163. -/
def execSet_2_C (s : State) : Result :=
  .next ((s.setOperand 2 (.reg .c)).advance (s.cost ⟨.cb, 0xD1⟩ 2))

/-- `SET 2,D` (CB D2): R163. -/
def execSet_2_D (s : State) : Result :=
  .next ((s.setOperand 2 (.reg .d)).advance (s.cost ⟨.cb, 0xD2⟩ 2))

/-- `SET 2,E` (CB D3): R163. -/
def execSet_2_E (s : State) : Result :=
  .next ((s.setOperand 2 (.reg .e)).advance (s.cost ⟨.cb, 0xD3⟩ 2))

/-- `SET 2,H` (CB D4): R163. -/
def execSet_2_H (s : State) : Result :=
  .next ((s.setOperand 2 (.reg .h)).advance (s.cost ⟨.cb, 0xD4⟩ 2))

/-- `SET 2,L` (CB D5): R163. -/
def execSet_2_L (s : State) : Result :=
  .next ((s.setOperand 2 (.reg .l)).advance (s.cost ⟨.cb, 0xD5⟩ 2))

/-- `SET 2,(HL)` (CB D6): R164. -/
def execSet_2_atHL (s : State) : Result :=
  .next ((s.setOperand 2 .atHL).advance (s.cost ⟨.cb, 0xD6⟩ 4))

/-- `SET 2,A` (CB D7): R163. -/
def execSet_2_A (s : State) : Result :=
  .next ((s.setOperand 2 (.reg .a)).advance (s.cost ⟨.cb, 0xD7⟩ 2))

/-- `SET 3,B` (CB D8): R163. -/
def execSet_3_B (s : State) : Result :=
  .next ((s.setOperand 3 (.reg .b)).advance (s.cost ⟨.cb, 0xD8⟩ 2))

/-- `SET 3,C` (CB D9): R163. -/
def execSet_3_C (s : State) : Result :=
  .next ((s.setOperand 3 (.reg .c)).advance (s.cost ⟨.cb, 0xD9⟩ 2))

/-- `SET 3,D` (CB DA): R163. -/
def execSet_3_D (s : State) : Result :=
  .next ((s.setOperand 3 (.reg .d)).advance (s.cost ⟨.cb, 0xDA⟩ 2))

/-- `SET 3,E` (CB DB): R163. -/
def execSet_3_E (s : State) : Result :=
  .next ((s.setOperand 3 (.reg .e)).advance (s.cost ⟨.cb, 0xDB⟩ 2))

/-- `SET 3,H` (CB DC): R163. -/
def execSet_3_H (s : State) : Result :=
  .next ((s.setOperand 3 (.reg .h)).advance (s.cost ⟨.cb, 0xDC⟩ 2))

/-- `SET 3,L` (CB DD): R163. -/
def execSet_3_L (s : State) : Result :=
  .next ((s.setOperand 3 (.reg .l)).advance (s.cost ⟨.cb, 0xDD⟩ 2))

/-- `SET 3,(HL)` (CB DE): R164. -/
def execSet_3_atHL (s : State) : Result :=
  .next ((s.setOperand 3 .atHL).advance (s.cost ⟨.cb, 0xDE⟩ 4))

/-- `SET 3,A` (CB DF): R163. -/
def execSet_3_A (s : State) : Result :=
  .next ((s.setOperand 3 (.reg .a)).advance (s.cost ⟨.cb, 0xDF⟩ 2))

/-- `SET 4,B` (CB E0): R163. -/
def execSet_4_B (s : State) : Result :=
  .next ((s.setOperand 4 (.reg .b)).advance (s.cost ⟨.cb, 0xE0⟩ 2))

/-- `SET 4,C` (CB E1): R163. -/
def execSet_4_C (s : State) : Result :=
  .next ((s.setOperand 4 (.reg .c)).advance (s.cost ⟨.cb, 0xE1⟩ 2))

/-- `SET 4,D` (CB E2): R163. -/
def execSet_4_D (s : State) : Result :=
  .next ((s.setOperand 4 (.reg .d)).advance (s.cost ⟨.cb, 0xE2⟩ 2))

/-- `SET 4,E` (CB E3): R163. -/
def execSet_4_E (s : State) : Result :=
  .next ((s.setOperand 4 (.reg .e)).advance (s.cost ⟨.cb, 0xE3⟩ 2))

/-- `SET 4,H` (CB E4): R163. -/
def execSet_4_H (s : State) : Result :=
  .next ((s.setOperand 4 (.reg .h)).advance (s.cost ⟨.cb, 0xE4⟩ 2))

/-- `SET 4,L` (CB E5): R163. -/
def execSet_4_L (s : State) : Result :=
  .next ((s.setOperand 4 (.reg .l)).advance (s.cost ⟨.cb, 0xE5⟩ 2))

/-- `SET 4,(HL)` (CB E6): R164. -/
def execSet_4_atHL (s : State) : Result :=
  .next ((s.setOperand 4 .atHL).advance (s.cost ⟨.cb, 0xE6⟩ 4))

/-- `SET 4,A` (CB E7): R163. -/
def execSet_4_A (s : State) : Result :=
  .next ((s.setOperand 4 (.reg .a)).advance (s.cost ⟨.cb, 0xE7⟩ 2))

/-- `SET 5,B` (CB E8): R163. -/
def execSet_5_B (s : State) : Result :=
  .next ((s.setOperand 5 (.reg .b)).advance (s.cost ⟨.cb, 0xE8⟩ 2))

/-- `SET 5,C` (CB E9): R163. -/
def execSet_5_C (s : State) : Result :=
  .next ((s.setOperand 5 (.reg .c)).advance (s.cost ⟨.cb, 0xE9⟩ 2))

/-- `SET 5,D` (CB EA): R163. -/
def execSet_5_D (s : State) : Result :=
  .next ((s.setOperand 5 (.reg .d)).advance (s.cost ⟨.cb, 0xEA⟩ 2))

/-- `SET 5,E` (CB EB): R163. -/
def execSet_5_E (s : State) : Result :=
  .next ((s.setOperand 5 (.reg .e)).advance (s.cost ⟨.cb, 0xEB⟩ 2))

/-- `SET 5,H` (CB EC): R163. -/
def execSet_5_H (s : State) : Result :=
  .next ((s.setOperand 5 (.reg .h)).advance (s.cost ⟨.cb, 0xEC⟩ 2))

/-- `SET 5,L` (CB ED): R163. -/
def execSet_5_L (s : State) : Result :=
  .next ((s.setOperand 5 (.reg .l)).advance (s.cost ⟨.cb, 0xED⟩ 2))

/-- `SET 5,(HL)` (CB EE): R164. -/
def execSet_5_atHL (s : State) : Result :=
  .next ((s.setOperand 5 .atHL).advance (s.cost ⟨.cb, 0xEE⟩ 4))

/-- `SET 5,A` (CB EF): R163. -/
def execSet_5_A (s : State) : Result :=
  .next ((s.setOperand 5 (.reg .a)).advance (s.cost ⟨.cb, 0xEF⟩ 2))

/-- `SET 6,B` (CB F0): R163. -/
def execSet_6_B (s : State) : Result :=
  .next ((s.setOperand 6 (.reg .b)).advance (s.cost ⟨.cb, 0xF0⟩ 2))

/-- `SET 6,C` (CB F1): R163. -/
def execSet_6_C (s : State) : Result :=
  .next ((s.setOperand 6 (.reg .c)).advance (s.cost ⟨.cb, 0xF1⟩ 2))

/-- `SET 6,D` (CB F2): R163. -/
def execSet_6_D (s : State) : Result :=
  .next ((s.setOperand 6 (.reg .d)).advance (s.cost ⟨.cb, 0xF2⟩ 2))

/-- `SET 6,E` (CB F3): R163. -/
def execSet_6_E (s : State) : Result :=
  .next ((s.setOperand 6 (.reg .e)).advance (s.cost ⟨.cb, 0xF3⟩ 2))

/-- `SET 6,H` (CB F4): R163. -/
def execSet_6_H (s : State) : Result :=
  .next ((s.setOperand 6 (.reg .h)).advance (s.cost ⟨.cb, 0xF4⟩ 2))

/-- `SET 6,L` (CB F5): R163. -/
def execSet_6_L (s : State) : Result :=
  .next ((s.setOperand 6 (.reg .l)).advance (s.cost ⟨.cb, 0xF5⟩ 2))

/-- `SET 6,(HL)` (CB F6): R164. -/
def execSet_6_atHL (s : State) : Result :=
  .next ((s.setOperand 6 .atHL).advance (s.cost ⟨.cb, 0xF6⟩ 4))

/-- `SET 6,A` (CB F7): R163. -/
def execSet_6_A (s : State) : Result :=
  .next ((s.setOperand 6 (.reg .a)).advance (s.cost ⟨.cb, 0xF7⟩ 2))

/-- `SET 7,B` (CB F8): R163. -/
def execSet_7_B (s : State) : Result :=
  .next ((s.setOperand 7 (.reg .b)).advance (s.cost ⟨.cb, 0xF8⟩ 2))

/-- `SET 7,C` (CB F9): R163. -/
def execSet_7_C (s : State) : Result :=
  .next ((s.setOperand 7 (.reg .c)).advance (s.cost ⟨.cb, 0xF9⟩ 2))

/-- `SET 7,D` (CB FA): R163. -/
def execSet_7_D (s : State) : Result :=
  .next ((s.setOperand 7 (.reg .d)).advance (s.cost ⟨.cb, 0xFA⟩ 2))

/-- `SET 7,E` (CB FB): R163. -/
def execSet_7_E (s : State) : Result :=
  .next ((s.setOperand 7 (.reg .e)).advance (s.cost ⟨.cb, 0xFB⟩ 2))

/-- `SET 7,H` (CB FC): R163. -/
def execSet_7_H (s : State) : Result :=
  .next ((s.setOperand 7 (.reg .h)).advance (s.cost ⟨.cb, 0xFC⟩ 2))

/-- `SET 7,L` (CB FD): R163. -/
def execSet_7_L (s : State) : Result :=
  .next ((s.setOperand 7 (.reg .l)).advance (s.cost ⟨.cb, 0xFD⟩ 2))

/-- `SET 7,(HL)` (CB FE): R164. -/
def execSet_7_atHL (s : State) : Result :=
  .next ((s.setOperand 7 .atHL).advance (s.cost ⟨.cb, 0xFE⟩ 4))

/-- `SET 7,A` (CB FF): R163. -/
def execSet_7_A (s : State) : Result :=
  .next ((s.setOperand 7 (.reg .a)).advance (s.cost ⟨.cb, 0xFF⟩ 2))

end Sys2Proof.Machine
end

