-- ==== Sys2Proof/Machine/RotateShift.lean ====
section
/-! DEFINITION. Rotates, shifts and swap (42_rotate_shift.md): the shared operations, then one meaning per instruction. -/

namespace Sys2Proof.Machine

/-! ### Shared operations -/

/-- An accumulator rotate: F takes all four flags, Z always 0 (R138 to R142). -/
def State.accRot (s : State) (op : AccRot) : State :=
  let (r, fl) := accRotResult op s.a (s.flag .carry)
  { s with a := r }.writeFlags fl

/-- A CB-page rotate, shift or swap on an r8 operand: read, write, then all four flags (R138, R143 to R158). -/
def State.rotOperand (s : State) (op : RotOp) (o : Operand8) : State :=
  let (v, s1) := s.read8 o
  let (r, fl) := rotResult op v (s.flag .carry)
  (s1.write8 o r).writeFlags fl

/-! ### The instructions -/

/-- `RLCA` (07): R139. -/
def execRlca (s : State) : Result :=
  .next ((s.accRot .rlca).advance (s.cost ⟨.primary, 0x07⟩ 1))

/-- `RRCA` (0F): R140. -/
def execRrca (s : State) : Result :=
  .next ((s.accRot .rrca).advance (s.cost ⟨.primary, 0x0F⟩ 1))

/-- `RLA` (17): R141. -/
def execRla (s : State) : Result :=
  .next ((s.accRot .rla).advance (s.cost ⟨.primary, 0x17⟩ 1))

/-- `RRA` (1F): R142. -/
def execRra (s : State) : Result :=
  .next ((s.accRot .rra).advance (s.cost ⟨.primary, 0x1F⟩ 1))

/-- `RLC B` (CB 00): R143. -/
def execRlc_B (s : State) : Result :=
  .next ((s.rotOperand .rlc (.reg .b)).advance (s.cost ⟨.cb, 0x00⟩ 2))

/-- `RLC C` (CB 01): R143. -/
def execRlc_C (s : State) : Result :=
  .next ((s.rotOperand .rlc (.reg .c)).advance (s.cost ⟨.cb, 0x01⟩ 2))

/-- `RLC D` (CB 02): R143. -/
def execRlc_D (s : State) : Result :=
  .next ((s.rotOperand .rlc (.reg .d)).advance (s.cost ⟨.cb, 0x02⟩ 2))

/-- `RLC E` (CB 03): R143. -/
def execRlc_E (s : State) : Result :=
  .next ((s.rotOperand .rlc (.reg .e)).advance (s.cost ⟨.cb, 0x03⟩ 2))

/-- `RLC H` (CB 04): R143. -/
def execRlc_H (s : State) : Result :=
  .next ((s.rotOperand .rlc (.reg .h)).advance (s.cost ⟨.cb, 0x04⟩ 2))

/-- `RLC L` (CB 05): R143. -/
def execRlc_L (s : State) : Result :=
  .next ((s.rotOperand .rlc (.reg .l)).advance (s.cost ⟨.cb, 0x05⟩ 2))

/-- `RLC (HL)` (CB 06): R144. -/
def execRlc_atHL (s : State) : Result :=
  .next ((s.rotOperand .rlc .atHL).advance (s.cost ⟨.cb, 0x06⟩ 4))

/-- `RLC A` (CB 07): R143. -/
def execRlc_A (s : State) : Result :=
  .next ((s.rotOperand .rlc (.reg .a)).advance (s.cost ⟨.cb, 0x07⟩ 2))

/-- `RRC B` (CB 08): R145. -/
def execRrc_B (s : State) : Result :=
  .next ((s.rotOperand .rrc (.reg .b)).advance (s.cost ⟨.cb, 0x08⟩ 2))

/-- `RRC C` (CB 09): R145. -/
def execRrc_C (s : State) : Result :=
  .next ((s.rotOperand .rrc (.reg .c)).advance (s.cost ⟨.cb, 0x09⟩ 2))

/-- `RRC D` (CB 0A): R145. -/
def execRrc_D (s : State) : Result :=
  .next ((s.rotOperand .rrc (.reg .d)).advance (s.cost ⟨.cb, 0x0A⟩ 2))

/-- `RRC E` (CB 0B): R145. -/
def execRrc_E (s : State) : Result :=
  .next ((s.rotOperand .rrc (.reg .e)).advance (s.cost ⟨.cb, 0x0B⟩ 2))

/-- `RRC H` (CB 0C): R145. -/
def execRrc_H (s : State) : Result :=
  .next ((s.rotOperand .rrc (.reg .h)).advance (s.cost ⟨.cb, 0x0C⟩ 2))

/-- `RRC L` (CB 0D): R145. -/
def execRrc_L (s : State) : Result :=
  .next ((s.rotOperand .rrc (.reg .l)).advance (s.cost ⟨.cb, 0x0D⟩ 2))

/-- `RRC (HL)` (CB 0E): R146. -/
def execRrc_atHL (s : State) : Result :=
  .next ((s.rotOperand .rrc .atHL).advance (s.cost ⟨.cb, 0x0E⟩ 4))

/-- `RRC A` (CB 0F): R145. -/
def execRrc_A (s : State) : Result :=
  .next ((s.rotOperand .rrc (.reg .a)).advance (s.cost ⟨.cb, 0x0F⟩ 2))

/-- `RL B` (CB 10): R147. -/
def execRl_B (s : State) : Result :=
  .next ((s.rotOperand .rl (.reg .b)).advance (s.cost ⟨.cb, 0x10⟩ 2))

/-- `RL C` (CB 11): R147. -/
def execRl_C (s : State) : Result :=
  .next ((s.rotOperand .rl (.reg .c)).advance (s.cost ⟨.cb, 0x11⟩ 2))

/-- `RL D` (CB 12): R147. -/
def execRl_D (s : State) : Result :=
  .next ((s.rotOperand .rl (.reg .d)).advance (s.cost ⟨.cb, 0x12⟩ 2))

/-- `RL E` (CB 13): R147. -/
def execRl_E (s : State) : Result :=
  .next ((s.rotOperand .rl (.reg .e)).advance (s.cost ⟨.cb, 0x13⟩ 2))

/-- `RL H` (CB 14): R147. -/
def execRl_H (s : State) : Result :=
  .next ((s.rotOperand .rl (.reg .h)).advance (s.cost ⟨.cb, 0x14⟩ 2))

/-- `RL L` (CB 15): R147. -/
def execRl_L (s : State) : Result :=
  .next ((s.rotOperand .rl (.reg .l)).advance (s.cost ⟨.cb, 0x15⟩ 2))

/-- `RL (HL)` (CB 16): R148. -/
def execRl_atHL (s : State) : Result :=
  .next ((s.rotOperand .rl .atHL).advance (s.cost ⟨.cb, 0x16⟩ 4))

/-- `RL A` (CB 17): R147. -/
def execRl_A (s : State) : Result :=
  .next ((s.rotOperand .rl (.reg .a)).advance (s.cost ⟨.cb, 0x17⟩ 2))

/-- `RR B` (CB 18): R149. -/
def execRr_B (s : State) : Result :=
  .next ((s.rotOperand .rr (.reg .b)).advance (s.cost ⟨.cb, 0x18⟩ 2))

/-- `RR C` (CB 19): R149. -/
def execRr_C (s : State) : Result :=
  .next ((s.rotOperand .rr (.reg .c)).advance (s.cost ⟨.cb, 0x19⟩ 2))

/-- `RR D` (CB 1A): R149. -/
def execRr_D (s : State) : Result :=
  .next ((s.rotOperand .rr (.reg .d)).advance (s.cost ⟨.cb, 0x1A⟩ 2))

/-- `RR E` (CB 1B): R149. -/
def execRr_E (s : State) : Result :=
  .next ((s.rotOperand .rr (.reg .e)).advance (s.cost ⟨.cb, 0x1B⟩ 2))

/-- `RR H` (CB 1C): R149. -/
def execRr_H (s : State) : Result :=
  .next ((s.rotOperand .rr (.reg .h)).advance (s.cost ⟨.cb, 0x1C⟩ 2))

/-- `RR L` (CB 1D): R149. -/
def execRr_L (s : State) : Result :=
  .next ((s.rotOperand .rr (.reg .l)).advance (s.cost ⟨.cb, 0x1D⟩ 2))

/-- `RR (HL)` (CB 1E): R150. -/
def execRr_atHL (s : State) : Result :=
  .next ((s.rotOperand .rr .atHL).advance (s.cost ⟨.cb, 0x1E⟩ 4))

/-- `RR A` (CB 1F): R149. -/
def execRr_A (s : State) : Result :=
  .next ((s.rotOperand .rr (.reg .a)).advance (s.cost ⟨.cb, 0x1F⟩ 2))

/-- `SLA B` (CB 20): R151. -/
def execSla_B (s : State) : Result :=
  .next ((s.rotOperand .sla (.reg .b)).advance (s.cost ⟨.cb, 0x20⟩ 2))

/-- `SLA C` (CB 21): R151. -/
def execSla_C (s : State) : Result :=
  .next ((s.rotOperand .sla (.reg .c)).advance (s.cost ⟨.cb, 0x21⟩ 2))

/-- `SLA D` (CB 22): R151. -/
def execSla_D (s : State) : Result :=
  .next ((s.rotOperand .sla (.reg .d)).advance (s.cost ⟨.cb, 0x22⟩ 2))

/-- `SLA E` (CB 23): R151. -/
def execSla_E (s : State) : Result :=
  .next ((s.rotOperand .sla (.reg .e)).advance (s.cost ⟨.cb, 0x23⟩ 2))

/-- `SLA H` (CB 24): R151. -/
def execSla_H (s : State) : Result :=
  .next ((s.rotOperand .sla (.reg .h)).advance (s.cost ⟨.cb, 0x24⟩ 2))

/-- `SLA L` (CB 25): R151. -/
def execSla_L (s : State) : Result :=
  .next ((s.rotOperand .sla (.reg .l)).advance (s.cost ⟨.cb, 0x25⟩ 2))

/-- `SLA (HL)` (CB 26): R152. -/
def execSla_atHL (s : State) : Result :=
  .next ((s.rotOperand .sla .atHL).advance (s.cost ⟨.cb, 0x26⟩ 4))

/-- `SLA A` (CB 27): R151. -/
def execSla_A (s : State) : Result :=
  .next ((s.rotOperand .sla (.reg .a)).advance (s.cost ⟨.cb, 0x27⟩ 2))

/-- `SRA B` (CB 28): R153. -/
def execSra_B (s : State) : Result :=
  .next ((s.rotOperand .sra (.reg .b)).advance (s.cost ⟨.cb, 0x28⟩ 2))

/-- `SRA C` (CB 29): R153. -/
def execSra_C (s : State) : Result :=
  .next ((s.rotOperand .sra (.reg .c)).advance (s.cost ⟨.cb, 0x29⟩ 2))

/-- `SRA D` (CB 2A): R153. -/
def execSra_D (s : State) : Result :=
  .next ((s.rotOperand .sra (.reg .d)).advance (s.cost ⟨.cb, 0x2A⟩ 2))

/-- `SRA E` (CB 2B): R153. -/
def execSra_E (s : State) : Result :=
  .next ((s.rotOperand .sra (.reg .e)).advance (s.cost ⟨.cb, 0x2B⟩ 2))

/-- `SRA H` (CB 2C): R153. -/
def execSra_H (s : State) : Result :=
  .next ((s.rotOperand .sra (.reg .h)).advance (s.cost ⟨.cb, 0x2C⟩ 2))

/-- `SRA L` (CB 2D): R153. -/
def execSra_L (s : State) : Result :=
  .next ((s.rotOperand .sra (.reg .l)).advance (s.cost ⟨.cb, 0x2D⟩ 2))

/-- `SRA (HL)` (CB 2E): R154. -/
def execSra_atHL (s : State) : Result :=
  .next ((s.rotOperand .sra .atHL).advance (s.cost ⟨.cb, 0x2E⟩ 4))

/-- `SRA A` (CB 2F): R153. -/
def execSra_A (s : State) : Result :=
  .next ((s.rotOperand .sra (.reg .a)).advance (s.cost ⟨.cb, 0x2F⟩ 2))

/-- `SWAP B` (CB 30): R155. -/
def execSwap_B (s : State) : Result :=
  .next ((s.rotOperand .swap (.reg .b)).advance (s.cost ⟨.cb, 0x30⟩ 2))

/-- `SWAP C` (CB 31): R155. -/
def execSwap_C (s : State) : Result :=
  .next ((s.rotOperand .swap (.reg .c)).advance (s.cost ⟨.cb, 0x31⟩ 2))

/-- `SWAP D` (CB 32): R155. -/
def execSwap_D (s : State) : Result :=
  .next ((s.rotOperand .swap (.reg .d)).advance (s.cost ⟨.cb, 0x32⟩ 2))

/-- `SWAP E` (CB 33): R155. -/
def execSwap_E (s : State) : Result :=
  .next ((s.rotOperand .swap (.reg .e)).advance (s.cost ⟨.cb, 0x33⟩ 2))

/-- `SWAP H` (CB 34): R155. -/
def execSwap_H (s : State) : Result :=
  .next ((s.rotOperand .swap (.reg .h)).advance (s.cost ⟨.cb, 0x34⟩ 2))

/-- `SWAP L` (CB 35): R155. -/
def execSwap_L (s : State) : Result :=
  .next ((s.rotOperand .swap (.reg .l)).advance (s.cost ⟨.cb, 0x35⟩ 2))

/-- `SWAP (HL)` (CB 36): R156. -/
def execSwap_atHL (s : State) : Result :=
  .next ((s.rotOperand .swap .atHL).advance (s.cost ⟨.cb, 0x36⟩ 4))

/-- `SWAP A` (CB 37): R155. -/
def execSwap_A (s : State) : Result :=
  .next ((s.rotOperand .swap (.reg .a)).advance (s.cost ⟨.cb, 0x37⟩ 2))

/-- `SRL B` (CB 38): R157. -/
def execSrl_B (s : State) : Result :=
  .next ((s.rotOperand .srl (.reg .b)).advance (s.cost ⟨.cb, 0x38⟩ 2))

/-- `SRL C` (CB 39): R157. -/
def execSrl_C (s : State) : Result :=
  .next ((s.rotOperand .srl (.reg .c)).advance (s.cost ⟨.cb, 0x39⟩ 2))

/-- `SRL D` (CB 3A): R157. -/
def execSrl_D (s : State) : Result :=
  .next ((s.rotOperand .srl (.reg .d)).advance (s.cost ⟨.cb, 0x3A⟩ 2))

/-- `SRL E` (CB 3B): R157. -/
def execSrl_E (s : State) : Result :=
  .next ((s.rotOperand .srl (.reg .e)).advance (s.cost ⟨.cb, 0x3B⟩ 2))

/-- `SRL H` (CB 3C): R157. -/
def execSrl_H (s : State) : Result :=
  .next ((s.rotOperand .srl (.reg .h)).advance (s.cost ⟨.cb, 0x3C⟩ 2))

/-- `SRL L` (CB 3D): R157. -/
def execSrl_L (s : State) : Result :=
  .next ((s.rotOperand .srl (.reg .l)).advance (s.cost ⟨.cb, 0x3D⟩ 2))

/-- `SRL (HL)` (CB 3E): R158. -/
def execSrl_atHL (s : State) : Result :=
  .next ((s.rotOperand .srl .atHL).advance (s.cost ⟨.cb, 0x3E⟩ 4))

/-- `SRL A` (CB 3F): R157. -/
def execSrl_A (s : State) : Result :=
  .next ((s.rotOperand .srl (.reg .a)).advance (s.cost ⟨.cb, 0x3F⟩ 2))

end Sys2Proof.Machine
end

