-- ==== Sys2Proof/Machine/Misc.lean ====
section
/-! DEFINITION. The CB prefix and the control instructions (46_misc.md): the shared operations, then one meaning per
instruction. -/

namespace Sys2Proof.Machine

/-! ### Shared operations -/

/-- An illegal slot: nothing beyond the fetch, or the lock bit set (R45, R215). -/
def State.illegal (s : State) : State :=
  match s.params.illegalMode with
  | .nop => s
  | .lock => { s with locked := true }

/-- The default cost of a CB-page instruction on an operand: 2 on a register, `onHL` on (HL) (R241). -/
def cbCost (onHL : Nat) : Operand8 → Nat
  | .reg _ => 2
  | .atHL => onHL

/-- PREFIX CB, its second byte fetched: the CB row's rule runs, at the CB row's cost (R72, R209). -/
def State.prefixCbEffect (s : State) (cb : Byte) : State :=
  let y := cb.extractLsb' 3 3
  let o := Operand8.ofBits (cb.extractLsb' 0 3)
  match cb.extractLsb' 6 2 with
  | 0#2 => (s.rotOperand (.ofBits y) o).advance (s.cost ⟨.cb, cb⟩ (cbCost 4 o))
  | 1#2 => (s.bitOperand y.toFin o).advance (s.cost ⟨.cb, cb⟩ (cbCost 3 o))
  | 2#2 => (s.resOperand y.toFin o).advance (s.cost ⟨.cb, cb⟩ (cbCost 4 o))
  | 3#2 => (s.setOperand y.toFin o).advance (s.cost ⟨.cb, cb⟩ (cbCost 4 o))

/-! ### The instructions -/

/-- `NOP` (00): R210. -/
def execNop (s : State) : Result :=
  .next (s.advance (s.cost ⟨.primary, 0x00⟩ 1))

/-- `HALT` (76): R211. -/
def execHalt (s : State) : Result :=
  .next ((s.emit .halt).advance (s.cost ⟨.primary, 0x76⟩ 1))

/-- `STOP` (10): R212. The byte STOP ignores has been fetched with the instruction. -/
def execStop (s : State) : Result :=
  .next ((s.emit .stop).advance (s.cost ⟨.primary, 0x10⟩ 1))

/-- `DI` (F3): R213. -/
def execDi (s : State) : Result :=
  .next ((s.emit .di).advance (s.cost ⟨.primary, 0xF3⟩ 1))

/-- `EI` (FB): R214. -/
def execEi (s : State) : Result :=
  .next ((s.emit .ei).advance (s.cost ⟨.primary, 0xFB⟩ 1))

/-- `ILLEGAL_D3` (D3): R215. -/
def execIllegal_D3 (s : State) : Result :=
  .next (s.illegal.advance (s.cost ⟨.primary, 0xD3⟩ 1))

/-- `ILLEGAL_DB` (DB): R215. -/
def execIllegal_DB (s : State) : Result :=
  .next (s.illegal.advance (s.cost ⟨.primary, 0xDB⟩ 1))

/-- `ILLEGAL_DD` (DD): R215. -/
def execIllegal_DD (s : State) : Result :=
  .next (s.illegal.advance (s.cost ⟨.primary, 0xDD⟩ 1))

/-- `ILLEGAL_E3` (E3): R215. -/
def execIllegal_E3 (s : State) : Result :=
  .next (s.illegal.advance (s.cost ⟨.primary, 0xE3⟩ 1))

/-- `ILLEGAL_E4` (E4): R215. -/
def execIllegal_E4 (s : State) : Result :=
  .next (s.illegal.advance (s.cost ⟨.primary, 0xE4⟩ 1))

/-- `ILLEGAL_EB` (EB): R215. -/
def execIllegal_EB (s : State) : Result :=
  .next (s.illegal.advance (s.cost ⟨.primary, 0xEB⟩ 1))

/-- `ILLEGAL_EC` (EC): R215. -/
def execIllegal_EC (s : State) : Result :=
  .next (s.illegal.advance (s.cost ⟨.primary, 0xEC⟩ 1))

/-- `ILLEGAL_ED` (ED): R215. -/
def execIllegal_ED (s : State) : Result :=
  .next (s.illegal.advance (s.cost ⟨.primary, 0xED⟩ 1))

/-- `ILLEGAL_F4` (F4): R215. -/
def execIllegal_F4 (s : State) : Result :=
  .next (s.illegal.advance (s.cost ⟨.primary, 0xF4⟩ 1))

/-- `ILLEGAL_FC` (FC): R215. -/
def execIllegal_FC (s : State) : Result :=
  .next (s.illegal.advance (s.cost ⟨.primary, 0xFC⟩ 1))

/-- `ILLEGAL_FD` (FD): R215. -/
def execIllegal_FD (s : State) : Result :=
  .next (s.illegal.advance (s.cost ⟨.primary, 0xFD⟩ 1))

/-- `PREFIX CB` (CB): R209. The prefix slot charges nothing itself. -/
def execPrefixCb (cb : Byte) (s : State) : Result :=
  .next (s.prefixCbEffect cb)

end Sys2Proof.Machine
end

