-- ==== Sys2Proof/Machine/Step.lean ====
section
/-! DEFINITION. One step is one `dispatch()` (46_misc.md R207): atomic, never failing on any byte value. -/

namespace Sys2Proof.Machine

/-- `dispatch()` (R207): STUCK under lock mode once locked; else no event yet, the instruction's bytes fetched, the
descriptor noted, and the instruction's rule performed, which advances the clock by its cost. -/
def step (s : State) : Host.Outcome State Fault Refusal :=
  if s.isStuck then .fault .stuck
  else exec s.beginDispatch.fetchInstr.1
    (s.beginDispatch.fetchInstr.2.record s.beginDispatch.fetchInstr.1)

/-- The state with the table word's instruction where the next step fetches it. -/
def State.withFetchWord (s : State) (nbits w : Nat) : State := s.placeTableWord nbits w

end Sys2Proof.Machine
end

