-- ==== Sys2Proof/Machine/Accessors.lean ====
section
/-! DEFINITION. The host's accessors of the register file, the flags register and the clock, with the five
programmer-error conditions (10_state.md R18 to R42, 60_exceptions.md R217 to R219, R230). The identifiers are the
spec's closed enumerations, and each accessor rejects those outside its domain by the fault the spec names; a
failing accessor answers no state, so it changes none. No instruction calls them (R218). -/

namespace Sys2Proof.Machine

/-- `RegId` (R18). -/
inductive RegId where
  | a | f | b | c | d | e | h | l | af | bc | de | hl | sp | pc
  deriving DecidableEq, Repr

/-- The width of the register in bits (R6, R27). -/
def RegId.width : RegId → Nat
  | .a => 8
  | .f => 8
  | .b => 8
  | .c => 8
  | .d => 8
  | .e => 8
  | .h => 8
  | .l => 8
  | .af => 16
  | .bc => 16
  | .de => 16
  | .hl => 16
  | .sp => 16
  | .pc => 16

/-- `accumulator()` (R19). -/
def State.accumulator (s : State) : Byte := s.a

/-- `set_accumulator` (R19). -/
def State.setAccumulator (s : State) (v : Byte) : State := { s with a := v }

/-- `auxiliary` (R20, D23). -/
def State.auxiliary (s : State) : RegId → Except Fault Byte
  | .b => .ok s.b
  | .c => .ok s.c
  | .d => .ok s.d
  | .e => .ok s.e
  | .h => .ok s.h
  | .l => .ok s.l
  | _ => .error .unknownAuxiliaryRegister

/-- `set_auxiliary` (R20, D23). -/
def State.setAuxiliary (s : State) (r : RegId) (v : Byte) : Except Fault State :=
  match r with
  | .b => .ok { s with b := v }
  | .c => .ok { s with c := v }
  | .d => .ok { s with d := v }
  | .e => .ok { s with e := v }
  | .h => .ok { s with h := v }
  | .l => .ok { s with l := v }
  | _ => .error .unknownAuxiliaryRegister

/-- `paired` (R21). -/
def State.paired (s : State) : RegId → Except Fault Word
  | .bc => .ok s.bc
  | .de => .ok s.de
  | .hl => .ok s.hl
  | .af => .ok s.af
  | _ => .error .unknownPairedRegister

/-- `set_paired` (R22, D24). -/
def State.setPaired (s : State) (r : RegId) (v : Word) : Except Fault State :=
  match r with
  | .bc => .ok (s.setBC v)
  | .de => .ok (s.setDE v)
  | .hl => .ok (s.setHL v)
  | .af => .ok (s.setAF v)
  | _ => .error .unknownPairedRegister

/-- `stack_pointer()` (R24). -/
def State.stackPointer (s : State) : Word := s.sp

/-- `set_stack_pointer` (R24). -/
def State.setStackPointer (s : State) (v : Word) : State := s.setSP v

/-- `program_counter()` (R25). -/
def State.programCounter (s : State) : Word := s.pc

/-- `set_program_counter` (R25). -/
def State.setProgramCounter (s : State) (v : Word) : State := s.setPC v

/-- `increment_by`: mod 2^w with an amount of the register's width, no flag (R26, R27, D26). -/
def State.incrementBy (s : State) (r : RegId) (n : BitVec r.width) : Except Fault State :=
  match r, n with
  | .a, n => .ok { s with a := s.a + n.setWidth 8 }
  | .b, n => .ok { s with b := s.b + n.setWidth 8 }
  | .c, n => .ok { s with c := s.c + n.setWidth 8 }
  | .d, n => .ok { s with d := s.d + n.setWidth 8 }
  | .e, n => .ok { s with e := s.e + n.setWidth 8 }
  | .h, n => .ok { s with h := s.h + n.setWidth 8 }
  | .l, n => .ok { s with l := s.l + n.setWidth 8 }
  | .bc, n => .ok (s.setBC (s.bc + n.setWidth 16))
  | .de, n => .ok (s.setDE (s.de + n.setWidth 16))
  | .hl, n => .ok (s.setHL (s.hl + n.setWidth 16))
  | .sp, n => .ok (s.setSP (s.sp + n.setWidth 16))
  | .pc, n => .ok (s.setPC (s.pc + n.setWidth 16))
  | .f, _ => .error .flagsNotIncrementable
  | .af, _ => .error .flagsNotIncrementable

/-- `decrement_by`: mod 2^w with an amount of the register's width, no flag (R26, R27, D26). -/
def State.decrementBy (s : State) (r : RegId) (n : BitVec r.width) : Except Fault State :=
  match r, n with
  | .a, n => .ok { s with a := s.a - n.setWidth 8 }
  | .b, n => .ok { s with b := s.b - n.setWidth 8 }
  | .c, n => .ok { s with c := s.c - n.setWidth 8 }
  | .d, n => .ok { s with d := s.d - n.setWidth 8 }
  | .e, n => .ok { s with e := s.e - n.setWidth 8 }
  | .h, n => .ok { s with h := s.h - n.setWidth 8 }
  | .l, n => .ok { s with l := s.l - n.setWidth 8 }
  | .bc, n => .ok (s.setBC (s.bc - n.setWidth 16))
  | .de, n => .ok (s.setDE (s.de - n.setWidth 16))
  | .hl, n => .ok (s.setHL (s.hl - n.setWidth 16))
  | .sp, n => .ok (s.setSP (s.sp - n.setWidth 16))
  | .pc, n => .ok (s.setPC (s.pc - n.setWidth 16))
  | .f, _ => .error .flagsNotDecrementable
  | .af, _ => .error .flagsNotDecrementable

/-- `increment` (R26). -/
def State.increment (s : State) (r : RegId) : Except Fault State := s.incrementBy r (BitVec.ofNat r.width 1)

/-- `decrement` (R26). -/
def State.decrement (s : State) (r : RegId) : Except Fault State := s.decrementBy r (BitVec.ofNat r.width 1)

/-- The flag a bit position of F identifies; any other position is no flag (R32). -/
def flagAt : Nat → Except Fault FlagId
  | 4 => .ok .carry
  | 5 => .ok .halfCarry
  | 6 => .ok .subtract
  | 7 => .ok .zero
  | _ => .error .unknownFlag

/-- `is_set` and the register file's `is_flag_set` (R28, R33). -/
def State.isFlagSet (s : State) (k : Nat) : Except Fault Bool :=
  match flagAt k with
  | .ok x => .ok (s.flag x)
  | .error r => .error r

/-- `put` and `put_flag` (R28, R33). -/
def State.putFlagAt (s : State) (k : Nat) (v : Bool) : Except Fault State :=
  match flagAt k with
  | .ok x => .ok (s.putFlag x v)
  | .error r => .error r

/-- `set` and `set_flag` (R28, R33). -/
def State.setFlagAt (s : State) (k : Nat) : Except Fault State := s.putFlagAt k true

/-- `reset` and `reset_flag` (R28, R33). -/
def State.resetFlagAt (s : State) (k : Nat) : Except Fault State := s.putFlagAt k false

/-- `toggle` and `toggle_flag` (R28, R33). -/
def State.toggleFlagAt (s : State) (k : Nat) : Except Fault State :=
  match flagAt k with
  | .ok x => .ok (s.putFlag x (!s.flag x))
  | .error r => .error r

/-- `value()` of the flags register (R34). -/
def State.flagsValue (s : State) : Byte := s.f

/-- `fine()` (R41). -/
def State.fineCount (s : State) : Cycles := s.fine

/-- `coarse()` (R41). -/
def State.coarseCount (s : State) : Cycles := s.coarse

end Sys2Proof.Machine
end

