-- ==== Sys2Proof/Machine/Forms.lean ====
section
/-! DEFINITION. The 512 instructions by their shape: one form per instruction rule of 40_alu8.md to 46_misc.md, so
that a table of the spec over families of instructions (10_state.md R35) is written once per family. -/

namespace Sys2Proof

/-- The shape of an instruction, with its selectors and its immediate (R71 to R81). -/
inductive Form where
  | nop | halt | stop | di | ei
  | illegal (k : IllegalSlot)
  | prefixCb (cb : Byte)
  | alu (op : AluOp) (o : Operand8)
  | aluImm (op : AluOp) (n : Byte)
  | inc (o : Operand8)
  | dec (o : Operand8)
  | daa | cpl | scf | ccf
  | addHL (p : Reg16)
  | inc16 (p : Reg16)
  | dec16 (p : Reg16)
  | addSP (n : Byte)
  | ldHLSP (n : Byte)
  | accRot (op : AccRot)
  | rot (op : RotOp) (o : Operand8)
  | bit (b : Fin 8) (o : Operand8)
  | res (b : Fin 8) (o : Operand8)
  | set (b : Fin 8) (o : Operand8)
  | jp (c : Option Cond) (nn : Word)
  | jpHL
  | jr (c : Option Cond) (n : Byte)
  | call (c : Option Cond) (nn : Word)
  | ret (c : Option Cond)
  | reti
  | rst (t : Fin 8)
  | push (p : StackPair)
  | pop (p : StackPair)
  | ld (dst src : Operand8)
  | ldImm (dst : Operand8) (n : Byte)
  | storeA (p : Pointer)
  | loadA (p : Pointer)
  | storeAbs (nn : Word)
  | loadAbs (nn : Word)
  | storeHigh (n : Byte)
  | loadHigh (n : Byte)
  | storeC
  | loadC
  | ld16 (p : Reg16) (nn : Word)
  | storeSP (nn : Word)
  | ldSPHL
  deriving DecidableEq, Repr

/-- The instruction of a form (`ld` between two (HL) operands is HALT, R211). -/
def Form.instr : Form → Instr
  | .nop => .nop
  | .halt => .halt
  | .stop => .stop
  | .di => .di
  | .ei => .ei
  | .illegal k => .ofIllegal k
  | .prefixCb cb => .prefixCb cb
  | .alu op o => .ofAlu op o
  | .aluImm op n => .ofAluImm op n
  | .inc o => .ofInc o
  | .dec o => .ofDec o
  | .daa => .daa
  | .cpl => .cpl
  | .scf => .scf
  | .ccf => .ccf
  | .addHL p => .ofAddHL p
  | .inc16 p => .ofInc16 p
  | .dec16 p => .ofDec16 p
  | .addSP n => .add_SP_e8 n
  | .ldHLSP n => .ld_HL_SPe8 n
  | .accRot op => .ofAccRot op
  | .rot op o => .ofRot op o
  | .bit b o => .ofBit b o
  | .res b o => .ofRes b o
  | .set b o => .ofSet b o
  | .jp c nn => .ofJp c nn
  | .jpHL => .jp_HL
  | .jr c n => .ofJr c n
  | .call c nn => .ofCall c nn
  | .ret c => .ofRet c
  | .reti => .reti
  | .rst t => .ofRst t
  | .push p => .ofPush p
  | .pop p => .ofPop p
  | .ld dst src => .ofLd dst src
  | .ldImm dst n => .ofLdImm dst n
  | .storeA p => .ofStoreA p
  | .loadA p => .ofLoadA p
  | .storeAbs nn => .ld_atA16_A nn
  | .loadAbs nn => .ld_A_atA16 nn
  | .storeHigh n => .ldh_atA8_A n
  | .loadHigh n => .ldh_A_atA8 n
  | .storeC => .ld_atC_A
  | .loadC => .ld_A_atC
  | .ld16 p nn => .ofLd16 p nn
  | .storeSP nn => .ld_atA16_SP nn
  | .ldSPHL => .ld_SP_HL

/-- The form of an instruction, slot by slot (R88, R89). -/
def Instr.form : Instr → Form
  | .nop => .nop
  | .ld_BC_d16 nn => .ld16 .bc nn
  | .ld_atBC_A => .storeA .bc
  | .inc_BC => .inc16 .bc
  | .inc_B => .inc (.reg .b)
  | .dec_B => .dec (.reg .b)
  | .ld_B_d8 n => .ldImm (.reg .b) n
  | .rlca => .accRot .rlca
  | .ld_atA16_SP nn => .storeSP nn
  | .add_HL_BC => .addHL .bc
  | .ld_A_atBC => .loadA .bc
  | .dec_BC => .dec16 .bc
  | .inc_C => .inc (.reg .c)
  | .dec_C => .dec (.reg .c)
  | .ld_C_d8 n => .ldImm (.reg .c) n
  | .rrca => .accRot .rrca
  | .stop => .stop
  | .ld_DE_d16 nn => .ld16 .de nn
  | .ld_atDE_A => .storeA .de
  | .inc_DE => .inc16 .de
  | .inc_D => .inc (.reg .d)
  | .dec_D => .dec (.reg .d)
  | .ld_D_d8 n => .ldImm (.reg .d) n
  | .rla => .accRot .rla
  | .jr_e8 n => .jr none n
  | .add_HL_DE => .addHL .de
  | .ld_A_atDE => .loadA .de
  | .dec_DE => .dec16 .de
  | .inc_E => .inc (.reg .e)
  | .dec_E => .dec (.reg .e)
  | .ld_E_d8 n => .ldImm (.reg .e) n
  | .rra => .accRot .rra
  | .jr_NZ_e8 n => .jr (some .nz) n
  | .ld_HL_d16 nn => .ld16 .hl nn
  | .ld_atHLi_A => .storeA .hlInc
  | .inc_HL => .inc16 .hl
  | .inc_H => .inc (.reg .h)
  | .dec_H => .dec (.reg .h)
  | .ld_H_d8 n => .ldImm (.reg .h) n
  | .daa => .daa
  | .jr_Z_e8 n => .jr (some .z) n
  | .add_HL_HL => .addHL .hl
  | .ld_A_atHLi => .loadA .hlInc
  | .dec_HL => .dec16 .hl
  | .inc_L => .inc (.reg .l)
  | .dec_L => .dec (.reg .l)
  | .ld_L_d8 n => .ldImm (.reg .l) n
  | .cpl => .cpl
  | .jr_NC_e8 n => .jr (some .nc) n
  | .ld_SP_d16 nn => .ld16 .sp nn
  | .ld_atHLd_A => .storeA .hlDec
  | .inc_SP => .inc16 .sp
  | .inc_atHL => .inc .atHL
  | .dec_atHL => .dec .atHL
  | .ld_atHL_d8 n => .ldImm .atHL n
  | .scf => .scf
  | .jr_C_e8 n => .jr (some .c) n
  | .add_HL_SP => .addHL .sp
  | .ld_A_atHLd => .loadA .hlDec
  | .dec_SP => .dec16 .sp
  | .inc_A => .inc (.reg .a)
  | .dec_A => .dec (.reg .a)
  | .ld_A_d8 n => .ldImm (.reg .a) n
  | .ccf => .ccf
  | .ld_B_B => .ld (.reg .b) (.reg .b)
  | .ld_B_C => .ld (.reg .b) (.reg .c)
  | .ld_B_D => .ld (.reg .b) (.reg .d)
  | .ld_B_E => .ld (.reg .b) (.reg .e)
  | .ld_B_H => .ld (.reg .b) (.reg .h)
  | .ld_B_L => .ld (.reg .b) (.reg .l)
  | .ld_B_atHL => .ld (.reg .b) .atHL
  | .ld_B_A => .ld (.reg .b) (.reg .a)
  | .ld_C_B => .ld (.reg .c) (.reg .b)
  | .ld_C_C => .ld (.reg .c) (.reg .c)
  | .ld_C_D => .ld (.reg .c) (.reg .d)
  | .ld_C_E => .ld (.reg .c) (.reg .e)
  | .ld_C_H => .ld (.reg .c) (.reg .h)
  | .ld_C_L => .ld (.reg .c) (.reg .l)
  | .ld_C_atHL => .ld (.reg .c) .atHL
  | .ld_C_A => .ld (.reg .c) (.reg .a)
  | .ld_D_B => .ld (.reg .d) (.reg .b)
  | .ld_D_C => .ld (.reg .d) (.reg .c)
  | .ld_D_D => .ld (.reg .d) (.reg .d)
  | .ld_D_E => .ld (.reg .d) (.reg .e)
  | .ld_D_H => .ld (.reg .d) (.reg .h)
  | .ld_D_L => .ld (.reg .d) (.reg .l)
  | .ld_D_atHL => .ld (.reg .d) .atHL
  | .ld_D_A => .ld (.reg .d) (.reg .a)
  | .ld_E_B => .ld (.reg .e) (.reg .b)
  | .ld_E_C => .ld (.reg .e) (.reg .c)
  | .ld_E_D => .ld (.reg .e) (.reg .d)
  | .ld_E_E => .ld (.reg .e) (.reg .e)
  | .ld_E_H => .ld (.reg .e) (.reg .h)
  | .ld_E_L => .ld (.reg .e) (.reg .l)
  | .ld_E_atHL => .ld (.reg .e) .atHL
  | .ld_E_A => .ld (.reg .e) (.reg .a)
  | .ld_H_B => .ld (.reg .h) (.reg .b)
  | .ld_H_C => .ld (.reg .h) (.reg .c)
  | .ld_H_D => .ld (.reg .h) (.reg .d)
  | .ld_H_E => .ld (.reg .h) (.reg .e)
  | .ld_H_H => .ld (.reg .h) (.reg .h)
  | .ld_H_L => .ld (.reg .h) (.reg .l)
  | .ld_H_atHL => .ld (.reg .h) .atHL
  | .ld_H_A => .ld (.reg .h) (.reg .a)
  | .ld_L_B => .ld (.reg .l) (.reg .b)
  | .ld_L_C => .ld (.reg .l) (.reg .c)
  | .ld_L_D => .ld (.reg .l) (.reg .d)
  | .ld_L_E => .ld (.reg .l) (.reg .e)
  | .ld_L_H => .ld (.reg .l) (.reg .h)
  | .ld_L_L => .ld (.reg .l) (.reg .l)
  | .ld_L_atHL => .ld (.reg .l) .atHL
  | .ld_L_A => .ld (.reg .l) (.reg .a)
  | .ld_atHL_B => .ld .atHL (.reg .b)
  | .ld_atHL_C => .ld .atHL (.reg .c)
  | .ld_atHL_D => .ld .atHL (.reg .d)
  | .ld_atHL_E => .ld .atHL (.reg .e)
  | .ld_atHL_H => .ld .atHL (.reg .h)
  | .ld_atHL_L => .ld .atHL (.reg .l)
  | .halt => .halt
  | .ld_atHL_A => .ld .atHL (.reg .a)
  | .ld_A_B => .ld (.reg .a) (.reg .b)
  | .ld_A_C => .ld (.reg .a) (.reg .c)
  | .ld_A_D => .ld (.reg .a) (.reg .d)
  | .ld_A_E => .ld (.reg .a) (.reg .e)
  | .ld_A_H => .ld (.reg .a) (.reg .h)
  | .ld_A_L => .ld (.reg .a) (.reg .l)
  | .ld_A_atHL => .ld (.reg .a) .atHL
  | .ld_A_A => .ld (.reg .a) (.reg .a)
  | .add_A_B => .alu .add (.reg .b)
  | .add_A_C => .alu .add (.reg .c)
  | .add_A_D => .alu .add (.reg .d)
  | .add_A_E => .alu .add (.reg .e)
  | .add_A_H => .alu .add (.reg .h)
  | .add_A_L => .alu .add (.reg .l)
  | .add_A_atHL => .alu .add .atHL
  | .add_A_A => .alu .add (.reg .a)
  | .adc_A_B => .alu .adc (.reg .b)
  | .adc_A_C => .alu .adc (.reg .c)
  | .adc_A_D => .alu .adc (.reg .d)
  | .adc_A_E => .alu .adc (.reg .e)
  | .adc_A_H => .alu .adc (.reg .h)
  | .adc_A_L => .alu .adc (.reg .l)
  | .adc_A_atHL => .alu .adc .atHL
  | .adc_A_A => .alu .adc (.reg .a)
  | .sub_B => .alu .sub (.reg .b)
  | .sub_C => .alu .sub (.reg .c)
  | .sub_D => .alu .sub (.reg .d)
  | .sub_E => .alu .sub (.reg .e)
  | .sub_H => .alu .sub (.reg .h)
  | .sub_L => .alu .sub (.reg .l)
  | .sub_atHL => .alu .sub .atHL
  | .sub_A => .alu .sub (.reg .a)
  | .sbc_A_B => .alu .sbc (.reg .b)
  | .sbc_A_C => .alu .sbc (.reg .c)
  | .sbc_A_D => .alu .sbc (.reg .d)
  | .sbc_A_E => .alu .sbc (.reg .e)
  | .sbc_A_H => .alu .sbc (.reg .h)
  | .sbc_A_L => .alu .sbc (.reg .l)
  | .sbc_A_atHL => .alu .sbc .atHL
  | .sbc_A_A => .alu .sbc (.reg .a)
  | .and_B => .alu .and (.reg .b)
  | .and_C => .alu .and (.reg .c)
  | .and_D => .alu .and (.reg .d)
  | .and_E => .alu .and (.reg .e)
  | .and_H => .alu .and (.reg .h)
  | .and_L => .alu .and (.reg .l)
  | .and_atHL => .alu .and .atHL
  | .and_A => .alu .and (.reg .a)
  | .xor_B => .alu .xor (.reg .b)
  | .xor_C => .alu .xor (.reg .c)
  | .xor_D => .alu .xor (.reg .d)
  | .xor_E => .alu .xor (.reg .e)
  | .xor_H => .alu .xor (.reg .h)
  | .xor_L => .alu .xor (.reg .l)
  | .xor_atHL => .alu .xor .atHL
  | .xor_A => .alu .xor (.reg .a)
  | .or_B => .alu .or (.reg .b)
  | .or_C => .alu .or (.reg .c)
  | .or_D => .alu .or (.reg .d)
  | .or_E => .alu .or (.reg .e)
  | .or_H => .alu .or (.reg .h)
  | .or_L => .alu .or (.reg .l)
  | .or_atHL => .alu .or .atHL
  | .or_A => .alu .or (.reg .a)
  | .cp_B => .alu .cp (.reg .b)
  | .cp_C => .alu .cp (.reg .c)
  | .cp_D => .alu .cp (.reg .d)
  | .cp_E => .alu .cp (.reg .e)
  | .cp_H => .alu .cp (.reg .h)
  | .cp_L => .alu .cp (.reg .l)
  | .cp_atHL => .alu .cp .atHL
  | .cp_A => .alu .cp (.reg .a)
  | .ret_NZ => .ret (some .nz)
  | .pop_BC => .pop .bc
  | .jp_NZ_a16 nn => .jp (some .nz) nn
  | .jp_a16 nn => .jp none nn
  | .call_NZ_a16 nn => .call (some .nz) nn
  | .push_BC => .push .bc
  | .add_A_d8 n => .aluImm .add n
  | .rst_00 => .rst 0
  | .ret_Z => .ret (some .z)
  | .ret => .ret none
  | .jp_Z_a16 nn => .jp (some .z) nn
  | .prefixCb cb => .prefixCb cb
  | .call_Z_a16 nn => .call (some .z) nn
  | .call_a16 nn => .call none nn
  | .adc_A_d8 n => .aluImm .adc n
  | .rst_08 => .rst 1
  | .ret_NC => .ret (some .nc)
  | .pop_DE => .pop .de
  | .jp_NC_a16 nn => .jp (some .nc) nn
  | .illegal_D3 => .illegal .xD3
  | .call_NC_a16 nn => .call (some .nc) nn
  | .push_DE => .push .de
  | .sub_d8 n => .aluImm .sub n
  | .rst_10 => .rst 2
  | .ret_C => .ret (some .c)
  | .reti => .reti
  | .jp_C_a16 nn => .jp (some .c) nn
  | .illegal_DB => .illegal .xDB
  | .call_C_a16 nn => .call (some .c) nn
  | .illegal_DD => .illegal .xDD
  | .sbc_A_d8 n => .aluImm .sbc n
  | .rst_18 => .rst 3
  | .ldh_atA8_A n => .storeHigh n
  | .pop_HL => .pop .hl
  | .ld_atC_A => .storeC
  | .illegal_E3 => .illegal .xE3
  | .illegal_E4 => .illegal .xE4
  | .push_HL => .push .hl
  | .and_d8 n => .aluImm .and n
  | .rst_20 => .rst 4
  | .add_SP_e8 n => .addSP n
  | .jp_HL => .jpHL
  | .ld_atA16_A nn => .storeAbs nn
  | .illegal_EB => .illegal .xEB
  | .illegal_EC => .illegal .xEC
  | .illegal_ED => .illegal .xED
  | .xor_d8 n => .aluImm .xor n
  | .rst_28 => .rst 5
  | .ldh_A_atA8 n => .loadHigh n
  | .pop_AF => .pop .af
  | .ld_A_atC => .loadC
  | .di => .di
  | .illegal_F4 => .illegal .xF4
  | .push_AF => .push .af
  | .or_d8 n => .aluImm .or n
  | .rst_30 => .rst 6
  | .ld_HL_SPe8 n => .ldHLSP n
  | .ld_SP_HL => .ldSPHL
  | .ld_A_atA16 nn => .loadAbs nn
  | .ei => .ei
  | .illegal_FC => .illegal .xFC
  | .illegal_FD => .illegal .xFD
  | .cp_d8 n => .aluImm .cp n
  | .rst_38 => .rst 7
  | .rlc_B => .rot .rlc (.reg .b)
  | .rlc_C => .rot .rlc (.reg .c)
  | .rlc_D => .rot .rlc (.reg .d)
  | .rlc_E => .rot .rlc (.reg .e)
  | .rlc_H => .rot .rlc (.reg .h)
  | .rlc_L => .rot .rlc (.reg .l)
  | .rlc_atHL => .rot .rlc .atHL
  | .rlc_A => .rot .rlc (.reg .a)
  | .rrc_B => .rot .rrc (.reg .b)
  | .rrc_C => .rot .rrc (.reg .c)
  | .rrc_D => .rot .rrc (.reg .d)
  | .rrc_E => .rot .rrc (.reg .e)
  | .rrc_H => .rot .rrc (.reg .h)
  | .rrc_L => .rot .rrc (.reg .l)
  | .rrc_atHL => .rot .rrc .atHL
  | .rrc_A => .rot .rrc (.reg .a)
  | .rl_B => .rot .rl (.reg .b)
  | .rl_C => .rot .rl (.reg .c)
  | .rl_D => .rot .rl (.reg .d)
  | .rl_E => .rot .rl (.reg .e)
  | .rl_H => .rot .rl (.reg .h)
  | .rl_L => .rot .rl (.reg .l)
  | .rl_atHL => .rot .rl .atHL
  | .rl_A => .rot .rl (.reg .a)
  | .rr_B => .rot .rr (.reg .b)
  | .rr_C => .rot .rr (.reg .c)
  | .rr_D => .rot .rr (.reg .d)
  | .rr_E => .rot .rr (.reg .e)
  | .rr_H => .rot .rr (.reg .h)
  | .rr_L => .rot .rr (.reg .l)
  | .rr_atHL => .rot .rr .atHL
  | .rr_A => .rot .rr (.reg .a)
  | .sla_B => .rot .sla (.reg .b)
  | .sla_C => .rot .sla (.reg .c)
  | .sla_D => .rot .sla (.reg .d)
  | .sla_E => .rot .sla (.reg .e)
  | .sla_H => .rot .sla (.reg .h)
  | .sla_L => .rot .sla (.reg .l)
  | .sla_atHL => .rot .sla .atHL
  | .sla_A => .rot .sla (.reg .a)
  | .sra_B => .rot .sra (.reg .b)
  | .sra_C => .rot .sra (.reg .c)
  | .sra_D => .rot .sra (.reg .d)
  | .sra_E => .rot .sra (.reg .e)
  | .sra_H => .rot .sra (.reg .h)
  | .sra_L => .rot .sra (.reg .l)
  | .sra_atHL => .rot .sra .atHL
  | .sra_A => .rot .sra (.reg .a)
  | .swap_B => .rot .swap (.reg .b)
  | .swap_C => .rot .swap (.reg .c)
  | .swap_D => .rot .swap (.reg .d)
  | .swap_E => .rot .swap (.reg .e)
  | .swap_H => .rot .swap (.reg .h)
  | .swap_L => .rot .swap (.reg .l)
  | .swap_atHL => .rot .swap .atHL
  | .swap_A => .rot .swap (.reg .a)
  | .srl_B => .rot .srl (.reg .b)
  | .srl_C => .rot .srl (.reg .c)
  | .srl_D => .rot .srl (.reg .d)
  | .srl_E => .rot .srl (.reg .e)
  | .srl_H => .rot .srl (.reg .h)
  | .srl_L => .rot .srl (.reg .l)
  | .srl_atHL => .rot .srl .atHL
  | .srl_A => .rot .srl (.reg .a)
  | .bit_0_B => .bit 0 (.reg .b)
  | .bit_0_C => .bit 0 (.reg .c)
  | .bit_0_D => .bit 0 (.reg .d)
  | .bit_0_E => .bit 0 (.reg .e)
  | .bit_0_H => .bit 0 (.reg .h)
  | .bit_0_L => .bit 0 (.reg .l)
  | .bit_0_atHL => .bit 0 .atHL
  | .bit_0_A => .bit 0 (.reg .a)
  | .bit_1_B => .bit 1 (.reg .b)
  | .bit_1_C => .bit 1 (.reg .c)
  | .bit_1_D => .bit 1 (.reg .d)
  | .bit_1_E => .bit 1 (.reg .e)
  | .bit_1_H => .bit 1 (.reg .h)
  | .bit_1_L => .bit 1 (.reg .l)
  | .bit_1_atHL => .bit 1 .atHL
  | .bit_1_A => .bit 1 (.reg .a)
  | .bit_2_B => .bit 2 (.reg .b)
  | .bit_2_C => .bit 2 (.reg .c)
  | .bit_2_D => .bit 2 (.reg .d)
  | .bit_2_E => .bit 2 (.reg .e)
  | .bit_2_H => .bit 2 (.reg .h)
  | .bit_2_L => .bit 2 (.reg .l)
  | .bit_2_atHL => .bit 2 .atHL
  | .bit_2_A => .bit 2 (.reg .a)
  | .bit_3_B => .bit 3 (.reg .b)
  | .bit_3_C => .bit 3 (.reg .c)
  | .bit_3_D => .bit 3 (.reg .d)
  | .bit_3_E => .bit 3 (.reg .e)
  | .bit_3_H => .bit 3 (.reg .h)
  | .bit_3_L => .bit 3 (.reg .l)
  | .bit_3_atHL => .bit 3 .atHL
  | .bit_3_A => .bit 3 (.reg .a)
  | .bit_4_B => .bit 4 (.reg .b)
  | .bit_4_C => .bit 4 (.reg .c)
  | .bit_4_D => .bit 4 (.reg .d)
  | .bit_4_E => .bit 4 (.reg .e)
  | .bit_4_H => .bit 4 (.reg .h)
  | .bit_4_L => .bit 4 (.reg .l)
  | .bit_4_atHL => .bit 4 .atHL
  | .bit_4_A => .bit 4 (.reg .a)
  | .bit_5_B => .bit 5 (.reg .b)
  | .bit_5_C => .bit 5 (.reg .c)
  | .bit_5_D => .bit 5 (.reg .d)
  | .bit_5_E => .bit 5 (.reg .e)
  | .bit_5_H => .bit 5 (.reg .h)
  | .bit_5_L => .bit 5 (.reg .l)
  | .bit_5_atHL => .bit 5 .atHL
  | .bit_5_A => .bit 5 (.reg .a)
  | .bit_6_B => .bit 6 (.reg .b)
  | .bit_6_C => .bit 6 (.reg .c)
  | .bit_6_D => .bit 6 (.reg .d)
  | .bit_6_E => .bit 6 (.reg .e)
  | .bit_6_H => .bit 6 (.reg .h)
  | .bit_6_L => .bit 6 (.reg .l)
  | .bit_6_atHL => .bit 6 .atHL
  | .bit_6_A => .bit 6 (.reg .a)
  | .bit_7_B => .bit 7 (.reg .b)
  | .bit_7_C => .bit 7 (.reg .c)
  | .bit_7_D => .bit 7 (.reg .d)
  | .bit_7_E => .bit 7 (.reg .e)
  | .bit_7_H => .bit 7 (.reg .h)
  | .bit_7_L => .bit 7 (.reg .l)
  | .bit_7_atHL => .bit 7 .atHL
  | .bit_7_A => .bit 7 (.reg .a)
  | .res_0_B => .res 0 (.reg .b)
  | .res_0_C => .res 0 (.reg .c)
  | .res_0_D => .res 0 (.reg .d)
  | .res_0_E => .res 0 (.reg .e)
  | .res_0_H => .res 0 (.reg .h)
  | .res_0_L => .res 0 (.reg .l)
  | .res_0_atHL => .res 0 .atHL
  | .res_0_A => .res 0 (.reg .a)
  | .res_1_B => .res 1 (.reg .b)
  | .res_1_C => .res 1 (.reg .c)
  | .res_1_D => .res 1 (.reg .d)
  | .res_1_E => .res 1 (.reg .e)
  | .res_1_H => .res 1 (.reg .h)
  | .res_1_L => .res 1 (.reg .l)
  | .res_1_atHL => .res 1 .atHL
  | .res_1_A => .res 1 (.reg .a)
  | .res_2_B => .res 2 (.reg .b)
  | .res_2_C => .res 2 (.reg .c)
  | .res_2_D => .res 2 (.reg .d)
  | .res_2_E => .res 2 (.reg .e)
  | .res_2_H => .res 2 (.reg .h)
  | .res_2_L => .res 2 (.reg .l)
  | .res_2_atHL => .res 2 .atHL
  | .res_2_A => .res 2 (.reg .a)
  | .res_3_B => .res 3 (.reg .b)
  | .res_3_C => .res 3 (.reg .c)
  | .res_3_D => .res 3 (.reg .d)
  | .res_3_E => .res 3 (.reg .e)
  | .res_3_H => .res 3 (.reg .h)
  | .res_3_L => .res 3 (.reg .l)
  | .res_3_atHL => .res 3 .atHL
  | .res_3_A => .res 3 (.reg .a)
  | .res_4_B => .res 4 (.reg .b)
  | .res_4_C => .res 4 (.reg .c)
  | .res_4_D => .res 4 (.reg .d)
  | .res_4_E => .res 4 (.reg .e)
  | .res_4_H => .res 4 (.reg .h)
  | .res_4_L => .res 4 (.reg .l)
  | .res_4_atHL => .res 4 .atHL
  | .res_4_A => .res 4 (.reg .a)
  | .res_5_B => .res 5 (.reg .b)
  | .res_5_C => .res 5 (.reg .c)
  | .res_5_D => .res 5 (.reg .d)
  | .res_5_E => .res 5 (.reg .e)
  | .res_5_H => .res 5 (.reg .h)
  | .res_5_L => .res 5 (.reg .l)
  | .res_5_atHL => .res 5 .atHL
  | .res_5_A => .res 5 (.reg .a)
  | .res_6_B => .res 6 (.reg .b)
  | .res_6_C => .res 6 (.reg .c)
  | .res_6_D => .res 6 (.reg .d)
  | .res_6_E => .res 6 (.reg .e)
  | .res_6_H => .res 6 (.reg .h)
  | .res_6_L => .res 6 (.reg .l)
  | .res_6_atHL => .res 6 .atHL
  | .res_6_A => .res 6 (.reg .a)
  | .res_7_B => .res 7 (.reg .b)
  | .res_7_C => .res 7 (.reg .c)
  | .res_7_D => .res 7 (.reg .d)
  | .res_7_E => .res 7 (.reg .e)
  | .res_7_H => .res 7 (.reg .h)
  | .res_7_L => .res 7 (.reg .l)
  | .res_7_atHL => .res 7 .atHL
  | .res_7_A => .res 7 (.reg .a)
  | .set_0_B => .set 0 (.reg .b)
  | .set_0_C => .set 0 (.reg .c)
  | .set_0_D => .set 0 (.reg .d)
  | .set_0_E => .set 0 (.reg .e)
  | .set_0_H => .set 0 (.reg .h)
  | .set_0_L => .set 0 (.reg .l)
  | .set_0_atHL => .set 0 .atHL
  | .set_0_A => .set 0 (.reg .a)
  | .set_1_B => .set 1 (.reg .b)
  | .set_1_C => .set 1 (.reg .c)
  | .set_1_D => .set 1 (.reg .d)
  | .set_1_E => .set 1 (.reg .e)
  | .set_1_H => .set 1 (.reg .h)
  | .set_1_L => .set 1 (.reg .l)
  | .set_1_atHL => .set 1 .atHL
  | .set_1_A => .set 1 (.reg .a)
  | .set_2_B => .set 2 (.reg .b)
  | .set_2_C => .set 2 (.reg .c)
  | .set_2_D => .set 2 (.reg .d)
  | .set_2_E => .set 2 (.reg .e)
  | .set_2_H => .set 2 (.reg .h)
  | .set_2_L => .set 2 (.reg .l)
  | .set_2_atHL => .set 2 .atHL
  | .set_2_A => .set 2 (.reg .a)
  | .set_3_B => .set 3 (.reg .b)
  | .set_3_C => .set 3 (.reg .c)
  | .set_3_D => .set 3 (.reg .d)
  | .set_3_E => .set 3 (.reg .e)
  | .set_3_H => .set 3 (.reg .h)
  | .set_3_L => .set 3 (.reg .l)
  | .set_3_atHL => .set 3 .atHL
  | .set_3_A => .set 3 (.reg .a)
  | .set_4_B => .set 4 (.reg .b)
  | .set_4_C => .set 4 (.reg .c)
  | .set_4_D => .set 4 (.reg .d)
  | .set_4_E => .set 4 (.reg .e)
  | .set_4_H => .set 4 (.reg .h)
  | .set_4_L => .set 4 (.reg .l)
  | .set_4_atHL => .set 4 .atHL
  | .set_4_A => .set 4 (.reg .a)
  | .set_5_B => .set 5 (.reg .b)
  | .set_5_C => .set 5 (.reg .c)
  | .set_5_D => .set 5 (.reg .d)
  | .set_5_E => .set 5 (.reg .e)
  | .set_5_H => .set 5 (.reg .h)
  | .set_5_L => .set 5 (.reg .l)
  | .set_5_atHL => .set 5 .atHL
  | .set_5_A => .set 5 (.reg .a)
  | .set_6_B => .set 6 (.reg .b)
  | .set_6_C => .set 6 (.reg .c)
  | .set_6_D => .set 6 (.reg .d)
  | .set_6_E => .set 6 (.reg .e)
  | .set_6_H => .set 6 (.reg .h)
  | .set_6_L => .set 6 (.reg .l)
  | .set_6_atHL => .set 6 .atHL
  | .set_6_A => .set 6 (.reg .a)
  | .set_7_B => .set 7 (.reg .b)
  | .set_7_C => .set 7 (.reg .c)
  | .set_7_D => .set 7 (.reg .d)
  | .set_7_E => .set 7 (.reg .e)
  | .set_7_H => .set 7 (.reg .h)
  | .set_7_L => .set 7 (.reg .l)
  | .set_7_atHL => .set 7 .atHL
  | .set_7_A => .set 7 (.reg .a)

/-- The instruction whose rule runs: for PREFIX CB the CB row its second byte selects (R209), else itself. -/
def Instr.effective : Instr → Instr
  | .prefixCb cb => decodeCb cb
  | i => i

/-- The condition a transfer tests; `none` where the form has none (R165, R171, R174, R176, R178). -/
def Form.condition : Form → Option Cond
  | .jp c _ => c
  | .jr c _ => c
  | .call c _ => c
  | .ret c => c
  | _ => none

end Sys2Proof
end

