-- ==== Sys2Proof/Safety.lean ====
section
/-! DEFINITION. What a safe run is, in the terms the statements use: the invariant of the state, and the spec's
tables over all instructions (which flags, registers and bytes an instruction may change). -/

namespace Sys2Proof.Machine

/-! ### The invariant -/

/-- What holds of every state a run reaches: F[3:0] is 0 (R31), `coarse = fine * 4` (R39), the memory is in its
canonical form (R49, R55), and the lock bit is clear unless lock mode gives it existence (R45). -/
abbrev State.Inv (s : State) : Prop :=
  s.f &&& 0x0F#8 = 0#8 ∧ s.coarse = s.fine * 4#64 ∧ s.mem.wf = true ∧
    (s.params.illegalMode = .nop → s.locked = false)

/-- A step is safe if it answers a next state: no instruction raises an exception (R216). -/
def Safe (s : State) : Prop := ∃ t, step s = .next t

/-- The state without its clock, which no instruction reads (R227, R242). -/
def State.eraseClock (s : State) : State := { s with fine := 0, coarse := 0 }

/-! ### Which flags an instruction writes (R35) -/

/-- An entry of the table of R35: constant 0, constant 1, computed, or unchanged. -/
inductive FlagEffect where
  | zero | one | computed | unchanged
  deriving DecidableEq, Repr

/-- The effect on each flag. -/
structure FlagRow where
  z : FlagEffect
  n : FlagEffect
  h : FlagEffect
  c : FlagEffect
  deriving DecidableEq, Repr

/-- The entry of a flag. -/
def FlagRow.at (r : FlagRow) : FlagId → FlagEffect
  | .zero => r.z
  | .subtract => r.n
  | .halfCarry => r.h
  | .carry => r.c

/-- The rows of the ALU operations (R35). -/
def aluFlags : AluOp → FlagRow
  | .add => ⟨.computed, .zero, .computed, .computed⟩
  | .adc => ⟨.computed, .zero, .computed, .computed⟩
  | .sub => ⟨.computed, .one, .computed, .computed⟩
  | .sbc => ⟨.computed, .one, .computed, .computed⟩
  | .cp => ⟨.computed, .one, .computed, .computed⟩
  | .and => ⟨.computed, .zero, .one, .zero⟩
  | .or => ⟨.computed, .zero, .zero, .zero⟩
  | .xor => ⟨.computed, .zero, .zero, .zero⟩

/-- The rows of the CB-page rotates, shifts and the swap (R35). -/
def rotFlags : RotOp → FlagRow
  | .rlc => ⟨.computed, .zero, .zero, .computed⟩
  | .rrc => ⟨.computed, .zero, .zero, .computed⟩
  | .rl => ⟨.computed, .zero, .zero, .computed⟩
  | .rr => ⟨.computed, .zero, .zero, .computed⟩
  | .sla => ⟨.computed, .zero, .zero, .computed⟩
  | .sra => ⟨.computed, .zero, .zero, .computed⟩
  | .swap => ⟨.computed, .zero, .zero, .zero⟩
  | .srl => ⟨.computed, .zero, .zero, .computed⟩

/-- The row of the instructions that write no flag (R35). -/
def unchangedFlags : FlagRow := ⟨.unchanged, .unchanged, .unchanged, .unchanged⟩

/-- The rows of POP: POP AF writes all four flags (R35). -/
def popFlags : StackPair → FlagRow
  | .bc => unchangedFlags
  | .de => unchangedFlags
  | .hl => unchangedFlags
  | .af => ⟨.computed, .computed, .computed, .computed⟩

/-- The table of R35. -/
def flagTable : Form → FlagRow
  | .nop => unchangedFlags
  | .halt => unchangedFlags
  | .stop => unchangedFlags
  | .di => unchangedFlags
  | .ei => unchangedFlags
  | .illegal _ => unchangedFlags
  | .prefixCb _ => unchangedFlags
  | .alu op _ => aluFlags op
  | .aluImm op _ => aluFlags op
  | .inc _ => ⟨.computed, .zero, .computed, .unchanged⟩
  | .dec _ => ⟨.computed, .one, .computed, .unchanged⟩
  | .daa => ⟨.computed, .unchanged, .zero, .computed⟩
  | .cpl => ⟨.unchanged, .one, .one, .unchanged⟩
  | .scf => ⟨.unchanged, .zero, .zero, .one⟩
  | .ccf => ⟨.unchanged, .zero, .zero, .computed⟩
  | .addHL _ => ⟨.unchanged, .zero, .computed, .computed⟩
  | .inc16 _ => unchangedFlags
  | .dec16 _ => unchangedFlags
  | .addSP _ => ⟨.zero, .zero, .computed, .computed⟩
  | .ldHLSP _ => ⟨.zero, .zero, .computed, .computed⟩
  | .accRot _ => ⟨.zero, .zero, .zero, .computed⟩
  | .rot op _ => rotFlags op
  | .bit _ _ => ⟨.computed, .zero, .one, .unchanged⟩
  | .res _ _ => unchangedFlags
  | .set _ _ => unchangedFlags
  | .jp _ _ => unchangedFlags
  | .jpHL => unchangedFlags
  | .jr _ _ => unchangedFlags
  | .call _ _ => unchangedFlags
  | .ret _ => unchangedFlags
  | .reti => unchangedFlags
  | .rst _ => unchangedFlags
  | .push _ => unchangedFlags
  | .pop p => popFlags p
  | .ld _ _ => unchangedFlags
  | .ldImm _ _ => unchangedFlags
  | .storeA _ => unchangedFlags
  | .loadA _ => unchangedFlags
  | .storeAbs _ => unchangedFlags
  | .loadAbs _ => unchangedFlags
  | .storeHigh _ => unchangedFlags
  | .loadHigh _ => unchangedFlags
  | .storeC => unchangedFlags
  | .loadC => unchangedFlags
  | .ld16 _ _ => unchangedFlags
  | .storeSP _ => unchangedFlags
  | .ldSPHL => unchangedFlags

/-- A flag before and after agrees with its entry. -/
def FlagEffect.holds (k : FlagEffect) (before after : Bool) : Prop :=
  match k with
  | .zero => after = false
  | .one => after = true
  | .computed => True
  | .unchanged => after = before

/-! ### Which registers an instruction writes (R29) -/

/-- The 8-bit registers a pair is made of. -/
def reg16Halves : Reg16 → List Reg8
  | .bc => [.b, .c]
  | .de => [.d, .e]
  | .hl => [.h, .l]
  | .sp => []

/-- The 8-bit registers, F apart, that a stack pair is made of. -/
def stackPairHalves : StackPair → List Reg8
  | .bc => [.b, .c]
  | .de => [.d, .e]
  | .hl => [.h, .l]
  | .af => [.a]

/-- The register an r8 operand is, if it is one. -/
def operandRegs : Operand8 → List Reg8
  | .reg r => [r]
  | .atHL => []

/-- HL where (HL+) and (HL-) move it. -/
def pointerMoves : Pointer → List Reg8
  | .bc => []
  | .de => []
  | .hlInc => [.h, .l]
  | .hlDec => [.h, .l]

/-- The accumulator, which every ALU operation but CP writes (R117). -/
def aluRegs : AluOp → List Reg8
  | .add => [.a]
  | .adc => [.a]
  | .sub => [.a]
  | .sbc => [.a]
  | .and => [.a]
  | .xor => [.a]
  | .or => [.a]
  | .cp => []

/-- The 8-bit registers, F apart, that an instruction's rule writes. -/
def writtenRegs : Form → List Reg8
  | .nop => []
  | .halt => []
  | .stop => []
  | .di => []
  | .ei => []
  | .illegal _ => []
  | .prefixCb _ => []
  | .alu op _ => aluRegs op
  | .aluImm op _ => aluRegs op
  | .inc o => operandRegs o
  | .dec o => operandRegs o
  | .daa => [.a]
  | .cpl => [.a]
  | .scf => []
  | .ccf => []
  | .addHL _ => [.h, .l]
  | .inc16 p => reg16Halves p
  | .dec16 p => reg16Halves p
  | .addSP _ => []
  | .ldHLSP _ => [.h, .l]
  | .accRot _ => [.a]
  | .rot _ o => operandRegs o
  | .bit _ _ => []
  | .res _ o => operandRegs o
  | .set _ o => operandRegs o
  | .jp _ _ => []
  | .jpHL => []
  | .jr _ _ => []
  | .call _ _ => []
  | .ret _ => []
  | .reti => []
  | .rst _ => []
  | .push _ => []
  | .pop p => stackPairHalves p
  | .ld dst _ => operandRegs dst
  | .ldImm dst _ => operandRegs dst
  | .storeA p => pointerMoves p
  | .loadA p => .a :: pointerMoves p
  | .storeAbs _ => []
  | .loadAbs _ => [.a]
  | .storeHigh _ => []
  | .loadHigh _ => [.a]
  | .storeC => []
  | .loadC => [.a]
  | .ld16 p _ => reg16Halves p
  | .storeSP _ => []
  | .ldSPHL => []

/-- Whether the pair operand is SP. -/
def reg16IsSP : Reg16 → Bool
  | .bc => false
  | .de => false
  | .hl => false
  | .sp => true

/-- Whether an instruction's rule may write SP. -/
def writesSP : Form → Bool
  | .nop => false
  | .halt => false
  | .stop => false
  | .di => false
  | .ei => false
  | .illegal _ => false
  | .prefixCb _ => false
  | .alu _ _ => false
  | .aluImm _ _ => false
  | .inc _ => false
  | .dec _ => false
  | .daa => false
  | .cpl => false
  | .scf => false
  | .ccf => false
  | .addHL _ => false
  | .inc16 p => reg16IsSP p
  | .dec16 p => reg16IsSP p
  | .addSP _ => true
  | .ldHLSP _ => false
  | .accRot _ => false
  | .rot _ _ => false
  | .bit _ _ => false
  | .res _ _ => false
  | .set _ _ => false
  | .jp _ _ => false
  | .jpHL => false
  | .jr _ _ => false
  | .call _ _ => true
  | .ret _ => true
  | .reti => true
  | .rst _ => true
  | .push _ => true
  | .pop _ => true
  | .ld _ _ => false
  | .ldImm _ _ => false
  | .storeA _ => false
  | .loadA _ => false
  | .storeAbs _ => false
  | .loadAbs _ => false
  | .storeHigh _ => false
  | .loadHigh _ => false
  | .storeC => false
  | .loadC => false
  | .ld16 p _ => reg16IsSP p
  | .storeSP _ => false
  | .ldSPHL => true

/-- Whether an instruction's rule may write PC beyond the fetch: the control transfers (44_control.md). -/
def writesPC : Form → Bool
  | .nop => false
  | .halt => false
  | .stop => false
  | .di => false
  | .ei => false
  | .illegal _ => false
  | .prefixCb _ => false
  | .alu _ _ => false
  | .aluImm _ _ => false
  | .inc _ => false
  | .dec _ => false
  | .daa => false
  | .cpl => false
  | .scf => false
  | .ccf => false
  | .addHL _ => false
  | .inc16 _ => false
  | .dec16 _ => false
  | .addSP _ => false
  | .ldHLSP _ => false
  | .accRot _ => false
  | .rot _ _ => false
  | .bit _ _ => false
  | .res _ _ => false
  | .set _ _ => false
  | .jp _ _ => true
  | .jpHL => true
  | .jr _ _ => true
  | .call _ _ => true
  | .ret _ => true
  | .reti => true
  | .rst _ => true
  | .push _ => false
  | .pop _ => false
  | .ld _ _ => false
  | .ldImm _ _ => false
  | .storeA _ => false
  | .loadA _ => false
  | .storeAbs _ => false
  | .loadAbs _ => false
  | .storeHigh _ => false
  | .loadHigh _ => false
  | .storeC => false
  | .loadC => false
  | .ld16 _ _ => false
  | .storeSP _ => false
  | .ldSPHL => false

/-- The load block's slot of (HL) and (HL) is HALT (R211); no other load reports an event. -/
def ldEvent : Operand8 → Operand8 → Option Event
  | .reg _, _ => none
  | .atHL, .reg _ => none
  | .atHL, .atHL => some .halt

/-- The sideband event an instruction reports (R225); every other instruction reports none. -/
def eventOf : Form → Option Event
  | .nop => none
  | .halt => some .halt
  | .stop => some .stop
  | .di => some .di
  | .ei => some .ei
  | .illegal _ => none
  | .prefixCb _ => none
  | .alu _ _ => none
  | .aluImm _ _ => none
  | .inc _ => none
  | .dec _ => none
  | .daa => none
  | .cpl => none
  | .scf => none
  | .ccf => none
  | .addHL _ => none
  | .inc16 _ => none
  | .dec16 _ => none
  | .addSP _ => none
  | .ldHLSP _ => none
  | .accRot _ => none
  | .rot _ _ => none
  | .bit _ _ => none
  | .res _ _ => none
  | .set _ _ => none
  | .jp _ _ => none
  | .jpHL => none
  | .jr _ _ => none
  | .call _ _ => none
  | .ret _ => none
  | .reti => some .reti
  | .rst _ => none
  | .push _ => none
  | .pop _ => none
  | .ld dst src => ldEvent dst src
  | .ldImm _ _ => none
  | .storeA _ => none
  | .loadA _ => none
  | .storeAbs _ => none
  | .loadAbs _ => none
  | .storeHigh _ => none
  | .loadHigh _ => none
  | .storeC => none
  | .loadC => none
  | .ld16 _ _ => none
  | .storeSP _ => none
  | .ldSPHL => none

/-! ### Which bytes an instruction stores to (R59) -/

/-- The address of an r8 operand that is in memory. -/
def operandAddress (s : State) : Operand8 → List Word
  | .reg _ => []
  | .atHL => [s.hl]

/-- The two bytes a push writes (R166). -/
def pushAddresses (s : State) : List Word := [s.sp - 1#16, s.sp - 2#16]

/-- A load stores where its destination is (HL) and its source a register; (HL) and (HL) is HALT (R187, R211). -/
def ldStores (s : State) (dst : Operand8) : Operand8 → List Word
  | .reg _ => operandAddress s dst
  | .atHL => []

/-- The addresses of the bytes an instruction stores to, computed as its meaning computes them. -/
def storedBytes (s : State) : Form → List Word
  | .nop => []
  | .halt => []
  | .stop => []
  | .di => []
  | .ei => []
  | .illegal _ => []
  | .prefixCb _ => []
  | .alu _ _ => []
  | .aluImm _ _ => []
  | .inc o => operandAddress s o
  | .dec o => operandAddress s o
  | .daa => []
  | .cpl => []
  | .scf => []
  | .ccf => []
  | .addHL _ => []
  | .inc16 _ => []
  | .dec16 _ => []
  | .addSP _ => []
  | .ldHLSP _ => []
  | .accRot _ => []
  | .rot _ o => operandAddress s o
  | .bit _ _ => []
  | .res _ o => operandAddress s o
  | .set _ o => operandAddress s o
  | .jp _ _ => []
  | .jpHL => []
  | .jr _ _ => []
  | .call c _ => if s.taken c then pushAddresses s else []
  | .ret _ => []
  | .reti => []
  | .rst _ => pushAddresses s
  | .push _ => pushAddresses s
  | .pop _ => []
  | .ld dst src => ldStores s dst src
  | .ldImm dst _ => operandAddress s dst
  | .storeA p => [s.pointer p]
  | .loadA _ => []
  | .storeAbs nn => [nn]
  | .loadAbs _ => []
  | .storeHigh n => [highPage n]
  | .loadHigh _ => []
  | .storeC => [highPage s.c]
  | .loadC => []
  | .ld16 _ _ => []
  | .storeSP nn => [nn, nn + 1#16]
  | .ldSPHL => []

/-- Whether an instruction's transfer is taken (R165, R207). -/
def takenBy (i : Instr) (s : State) : Bool := s.taken i.effective.form.condition

end Sys2Proof.Machine
end

