-- ==== Sys2Proof/Certificates/Slice0/Obligations.lean ====
section
/-! DEFINITION. The statements about this machine, each from the rules of the spec its docstring names. An instruction's
result is stated as `exec i s = .next (t.advance n)` for the state `t` its rule gives and some cost `n`; the costs are
one statement of their own (`ClockAdvancesByDeclaredCost`). `s.read8 o` is the operand and the state after reading it
(`OperandReadWrite`), which differs from `s` only by the recorded access of an external bus. -/

namespace Sys2Proof.Claims

open Sys2Proof.Machine

/-- F with all four flags new and bits 3 to 0 as they were. -/
def withFlags (f : Byte) (z n h c : Bool) : Byte := FlagSet.toByte ⟨z, n, h, c⟩ ||| (f &&& 0x0F#8)

/-- A and F after the exact sum of A, `v` and a carry-in: C is the sum exceeding 255, H the low digits' sum
exceeding 15. -/
def afterAdd (s : State) (v : Byte) (cin : Bool) : State :=
  let sum := s.a.toNat + v.toNat + cin.toNat
  { s with
    a := BitVec.ofNat 8 sum
    f := FlagSet.toByte ⟨decide (sum % 256 = 0), false,
      decide (s.a.toNat % 16 + v.toNat % 16 + cin.toNat > 15), decide (sum > 255)⟩ }

/-- The four flags of the exact difference of `a`, `v` and a borrow-in, in borrow polarity. -/
def borrowFlags (a v : Byte) (bin : Bool) : Byte :=
  FlagSet.toByte ⟨decide ((a.toNat + 512 - v.toNat - bin.toNat) % 256 = 0), true,
    decide (a.toNat % 16 < v.toNat % 16 + bin.toNat), decide (a.toNat < v.toNat + bin.toNat)⟩

/-- A and F after the difference of A, `v` and a borrow-in. -/
def afterSub (s : State) (v : Byte) (bin : Bool) : State :=
  { s with a := BitVec.ofNat 8 (s.a.toNat + 512 - v.toNat - bin.toNat), f := borrowFlags s.a v bin }

/-- Rotates and shifts on numbers: the result and the bit shifted out (R135 to R137). -/
def shifted (op : RotOp) (v cin : Nat) : Nat × Bool :=
  match op with
  | .rlc => ((2 * v + v / 128) % 256, decide (v ≥ 128))
  | .rrc => (v / 2 + 128 * (v % 2), decide (v % 2 = 1))
  | .rl => ((2 * v + cin) % 256, decide (v ≥ 128))
  | .rr => (v / 2 + 128 * cin, decide (v % 2 = 1))
  | .sla => (2 * v % 256, decide (v ≥ 128))
  | .sra => (v / 2 + (if v ≥ 128 then 128 else 0), decide (v % 2 = 1))
  | .swap => (v % 16 * 16 + v / 16, false)
  | .srl => (v / 2, decide (v % 2 = 1))

/-- The CB-page operation an accumulator rotate performs on A. -/
def accOp : AccRot → RotOp
  | .rlca => .rlc
  | .rrca => .rrc
  | .rla => .rl
  | .rra => .rr

/-- The two-digit decimal number as its two BCD digits. -/
def bcd (x : Nat) : Byte := BitVec.ofNat 8 (x / 10 * 16 + x % 10)

/-- The reads of an external bus that return these bytes from an address on, the first access first. -/
def reads (x : Word) : List Byte → List BusEvent
  | [] => []
  | v :: rest => .read x v :: reads (x + 1#16) rest

/-- The three bytes of the array at an address and the next ones, mod 2^16. -/
def bytesAt (m : Memory) (x : Word) : List Byte :=
  [m.read x.toNat, m.read (x + 1#16).toNat, m.read (x + 2#16).toNat]

end Sys2Proof.Claims

open Sys2Proof Sys2Proof.Machine Sys2Proof.Claims

/-! ### The flags register and the register file -/

/-- R30: Z N H C are bits 7 to 4 of F, read from any F and written as `FlagSet.toByte` lays them out; a write of
the whole of F leaves bits 3 to 0 at 0 (R31, the spec's decision D25). -/
def Obligations.FlagsSitInBitsSevenToFour : Prop :=
  ∀ (z n h c : Bool) (s : State),
    s.flag .carry = s.f.getLsbD 4 ∧ s.flag .halfCarry = s.f.getLsbD 5 ∧ s.flag .subtract = s.f.getLsbD 6 ∧
    s.flag .zero = s.f.getLsbD 7 ∧
    let t := s.writeFlags ⟨z, n, h, c⟩
    t.f = FlagSet.toByte ⟨z, n, h, c⟩ ∧ t.flag .zero = z ∧ t.flag .subtract = n ∧ t.flag .halfCarry = h ∧
      t.flag .carry = c ∧ t.f.toNat = 128 * z.toNat + 64 * n.toNat + 32 * h.toNat + 16 * c.toNat

/-- R33: each flag operation changes only its own bit of F, and nothing else. -/
def Obligations.FlagOperationsChangeOneBit : Prop :=
  ∀ (s : State) (k : FlagId) (v : Bool),
    s.putFlagAt k.position v = .ok (s.putFlag k v) ∧
    s.setFlagAt k.position = .ok (s.putFlag k true) ∧
    s.resetFlagAt k.position = .ok (s.putFlag k false) ∧
    s.toggleFlagAt k.position = .ok (s.putFlag k (!s.flag k)) ∧
    s.isFlagSet k.position = .ok (s.f.getLsbD k.position) ∧
    (s.putFlag k v).f.getLsbD k.position = v ∧
    (∀ j, j ≠ k.position → (s.putFlag k v).f.getLsbD j = s.f.getLsbD j) ∧
    s.putFlag k v = { s with f := (s.putFlag k v).f }

/-- R32: the four flag identifiers are bit positions 4 to 7; a bit position that is no flag makes every flag
operation fail with UnknownFlag, which answers no new F. -/
def Obligations.UnknownFlagFails : Prop :=
  (FlagId.carry.position = 4 ∧ FlagId.halfCarry.position = 5 ∧ FlagId.subtract.position = 6 ∧
    FlagId.zero.position = 7) ∧
  ∀ (s : State) (j : Nat) (v : Bool), j ≠ 4 → j ≠ 5 → j ≠ 6 → j ≠ 7 →
    s.isFlagSet j = .error .unknownFlag ∧ s.putFlagAt j v = .error .unknownFlag ∧
    s.setFlagAt j = .error .unknownFlag ∧ s.resetFlagAt j = .error .unknownFlag ∧
    s.toggleFlagAt j = .error .unknownFlag

/-- R23: the round-trip law of `set_paired` and `paired`, and the masking of AF. -/
def Obligations.PairRoundTrip : Prop :=
  ∀ (s : State) (v : Word),
    (∀ p, p = RegId.bc ∨ p = .de ∨ p = .hl →
      ∃ t, s.setPaired p v = .ok t ∧ t.paired p = .ok v) ∧
    ∃ t, s.setPaired .af v = .ok t ∧ t.paired .af = .ok (v &&& 0xFFF0#16)

/-- R17: a pair's value is the concatenation of its halves, the first-named the high byte; writing a half is seen
in the pair and writing the pair is seen in the halves. -/
def Obligations.PairsAreViewsOfTheirHalves : Prop :=
  ∀ (s : State) (v : Word) (x y : Byte),
    s.bc.toNat = s.b.toNat * 256 + s.c.toNat ∧ s.de.toNat = s.d.toNat * 256 + s.e.toNat ∧
    s.hl.toNat = s.h.toNat * 256 + s.l.toNat ∧ s.af.toNat = s.a.toNat * 256 + s.f.toNat ∧
    ((s.setReg .b x).setReg .c y).bc.toNat = x.toNat * 256 + y.toNat ∧
    ((s.setReg .d x).setReg .e y).de.toNat = x.toNat * 256 + y.toNat ∧
    ((s.setReg .h x).setReg .l y).hl.toNat = x.toNat * 256 + y.toNat ∧
    (s.setBC v).b.toNat = v.toNat / 256 ∧ (s.setBC v).c.toNat = v.toNat % 256 ∧
    (s.setDE v).d.toNat = v.toNat / 256 ∧ (s.setDE v).e.toNat = v.toNat % 256 ∧
    (s.setHL v).h.toNat = v.toNat / 256 ∧ (s.setHL v).l.toNat = v.toNat % 256

/-- R26, and R27 with the spec's decision D26 (the amount has the register's width): `increment`, `decrement` and their
by-amount variants are mod 2^w, never change a flag, and are refused for F and AF. -/
def Obligations.IncrementAndDecrementOfRegisters : Prop :=
  (∀ (s : State) (n : Byte) (m : Word),
    s.incrementBy .a n = .ok { s with a := s.a + n } ∧ s.decrementBy .a n = .ok { s with a := s.a - n } ∧
    s.incrementBy .b n = .ok { s with b := s.b + n } ∧ s.decrementBy .b n = .ok { s with b := s.b - n } ∧
    s.incrementBy .c n = .ok { s with c := s.c + n } ∧ s.decrementBy .c n = .ok { s with c := s.c - n } ∧
    s.incrementBy .d n = .ok { s with d := s.d + n } ∧ s.decrementBy .d n = .ok { s with d := s.d - n } ∧
    s.incrementBy .e n = .ok { s with e := s.e + n } ∧ s.decrementBy .e n = .ok { s with e := s.e - n } ∧
    s.incrementBy .h n = .ok { s with h := s.h + n } ∧ s.decrementBy .h n = .ok { s with h := s.h - n } ∧
    s.incrementBy .l n = .ok { s with l := s.l + n } ∧ s.decrementBy .l n = .ok { s with l := s.l - n } ∧
    s.incrementBy .bc m = .ok (s.setBC (s.bc + m)) ∧ s.decrementBy .bc m = .ok (s.setBC (s.bc - m)) ∧
    s.incrementBy .de m = .ok (s.setDE (s.de + m)) ∧ s.decrementBy .de m = .ok (s.setDE (s.de - m)) ∧
    s.incrementBy .hl m = .ok (s.setHL (s.hl + m)) ∧ s.decrementBy .hl m = .ok (s.setHL (s.hl - m)) ∧
    s.incrementBy .sp m = .ok { s with sp := s.sp + m } ∧ s.decrementBy .sp m = .ok { s with sp := s.sp - m } ∧
    s.incrementBy .pc m = .ok { s with pc := s.pc + m } ∧ s.decrementBy .pc m = .ok { s with pc := s.pc - m } ∧
    s.incrementBy .f n = .error .flagsNotIncrementable ∧ s.incrementBy .af m = .error .flagsNotIncrementable ∧
    s.decrementBy .f n = .error .flagsNotDecrementable ∧ s.decrementBy .af m = .error .flagsNotDecrementable) ∧
  (∀ (s t : State) (r : RegId) (n : BitVec r.width),
    s.incrementBy r n = .ok t ∨ s.decrementBy r n = .ok t → t.f = s.f) ∧
  ∀ (s : State),
    s.increment .a = .ok { s with a := s.a + 1#8 } ∧ s.decrement .a = .ok { s with a := s.a - 1#8 } ∧
    s.increment .b = .ok { s with b := s.b + 1#8 } ∧ s.decrement .b = .ok { s with b := s.b - 1#8 } ∧
    s.increment .c = .ok { s with c := s.c + 1#8 } ∧ s.decrement .c = .ok { s with c := s.c - 1#8 } ∧
    s.increment .d = .ok { s with d := s.d + 1#8 } ∧ s.decrement .d = .ok { s with d := s.d - 1#8 } ∧
    s.increment .e = .ok { s with e := s.e + 1#8 } ∧ s.decrement .e = .ok { s with e := s.e - 1#8 } ∧
    s.increment .h = .ok { s with h := s.h + 1#8 } ∧ s.decrement .h = .ok { s with h := s.h - 1#8 } ∧
    s.increment .l = .ok { s with l := s.l + 1#8 } ∧ s.decrement .l = .ok { s with l := s.l - 1#8 } ∧
    s.increment .bc = .ok (s.setBC (s.bc + 1#16)) ∧ s.decrement .bc = .ok (s.setBC (s.bc - 1#16)) ∧
    s.increment .de = .ok (s.setDE (s.de + 1#16)) ∧ s.decrement .de = .ok (s.setDE (s.de - 1#16)) ∧
    s.increment .hl = .ok (s.setHL (s.hl + 1#16)) ∧ s.decrement .hl = .ok (s.setHL (s.hl - 1#16)) ∧
    s.increment .sp = .ok { s with sp := s.sp + 1#16 } ∧ s.decrement .sp = .ok { s with sp := s.sp - 1#16 } ∧
    s.increment .pc = .ok { s with pc := s.pc + 1#16 } ∧ s.decrement .pc = .ok { s with pc := s.pc - 1#16 } ∧
    s.increment .f = .error .flagsNotIncrementable ∧ s.increment .af = .error .flagsNotIncrementable ∧
    s.decrement .f = .error .flagsNotDecrementable ∧ s.decrement .af = .error .flagsNotDecrementable ∧
    (∀ r t, s.increment r = .ok t ∨ s.decrement r = .ok t → t.f = s.f)

/-- R217 (with D23 for A and F): which accessor raises which condition, and that each succeeds on its domain. -/
def Obligations.AccessorsFailOnlyOutsideTheirDomain : Prop :=
  ∀ (s : State) (r : RegId) (v : Byte) (w : Word),
    (r ∈ [RegId.b, .c, .d, .e, .h, .l] →
      ∃ t, s.setAuxiliary r v = .ok t ∧ t.auxiliary r = .ok v ∧ t.f = s.f ∧ t.a = s.a) ∧
    (r ∉ [RegId.b, .c, .d, .e, .h, .l] →
      s.auxiliary r = .error .unknownAuxiliaryRegister ∧
      s.setAuxiliary r v = .error .unknownAuxiliaryRegister) ∧
    (r ∈ [RegId.bc, .de, .hl, .af] → (∃ x, s.paired r = .ok x) ∧ ∃ t, s.setPaired r w = .ok t) ∧
    (r ∉ [RegId.bc, .de, .hl, .af] →
      s.paired r = .error .unknownPairedRegister ∧ s.setPaired r w = .error .unknownPairedRegister)

/-! ### Memory and the bus -/

/-- R55: under a flat bus a read returns the last value written to the address, a write changes no other byte, and
no read changes anything (R62). The canonical form is the model's own invariant. -/
def Obligations.FlatMemoryReturnsLastWrite : Prop :=
  ∀ (s : State) (x : Word) (v : Byte), s.params.bus = .flat → s.mem.wf = true →
    ((s.store x v).load x = (v, s.store x v)) ∧
    (∀ y, y ≠ x → ((s.store x v).load y).1 = (s.load y).1) ∧
    (∀ y, (s.load y).2 = s) ∧
    (s.store x v = { s with mem := (s.store x v).mem }) ∧ (s.store x v).mem.wf = true

/-- R52, R53: words are little-endian, the low byte at the lower address, the second address mod 2^16. -/
def Obligations.WordAccessIsLittleEndian : Prop :=
  ∀ (s : State) (x v : Word), s.params.bus = .flat → s.mem.wf = true →
    ((s.loadWord x).1.toNat =
      (s.mem.read ((x.toNat + 1) % 65536)).toNat * 256 + (s.mem.read x.toNat).toNat) ∧
    ((s.storeWord x v).mem.read x.toNat).toNat = v.toNat % 256 ∧
    ((s.storeWord x v).mem.read ((x.toNat + 1) % 65536)).toNat = v.toNat / 256 ∧
    ((s.storeWord x v).loadWord x).1 = v

/-- The model's reading of `BUS = external` (R55, R60, D8): every access is an event of the bus in the order
performed, a read returns some value, and the array behind a flat bus is not touched. -/
def Obligations.ExternalBusRecordsEveryAccess : Prop :=
  ∀ (s : State) (x v : Word) (b : Byte), s.params.bus = .external →
    (∃ u, s.load x = (u, { s with busLog := .read x u :: s.busLog })) ∧
    s.store x b = { s with busLog := .write x b :: s.busLog } ∧
    (s.storeWord x v).busLog = .write (x + 1#16) (hiByte v) :: .write x (loByte v) :: s.busLog ∧
    (s.push16 v).busLog =
      .write (s.sp - 2#16) (loByte v) :: .write (s.sp - 1#16) (hiByte v) :: s.busLog

/-- R82: an r8 operand is the register, or the byte at HL, read and written through the bus. -/
def Obligations.OperandReadWrite : Prop :=
  ∀ (s : State) (v : Byte),
    (∀ r, s.read8 (.reg r) = (s.reg r, s) ∧ (s.write8 (.reg r) v).reg r = v ∧
      (∀ q, q ≠ r → (s.write8 (.reg r) v).reg q = s.reg q) ∧ (s.write8 (.reg r) v).f = s.f ∧
      (s.write8 (.reg r) v).mem = s.mem ∧ (s.write8 (.reg r) v).busLog = s.busLog) ∧
    s.read8 .atHL = s.load s.hl ∧ s.write8 .atHL v = s.store s.hl v ∧
    (s.params.bus = .flat → s.read8 .atHL = (s.mem.read s.hl.toNat, s))

/-! ### 8-bit arithmetic and logic -/

/-- R90 through ADD and ADC, every form: the exact sum, and the rule's own carry and half-carry tests equal the
sums' overflows. -/
def Obligations.AddAndAdcResult : Prop :=
  (∀ (s : State) (o : Operand8), ∃ n, exec (.ofAlu .add o) s =
    .next ((afterAdd (s.read8 o).2 (s.read8 o).1 false).advance n)) ∧
  (∀ (s : State) (v : Byte), ∃ n, exec (.ofAluImm .add v) s = .next ((afterAdd s v false).advance n)) ∧
  (∀ (s : State) (o : Operand8), ∃ n, exec (.ofAlu .adc o) s =
    .next ((afterAdd (s.read8 o).2 (s.read8 o).1 (s.flag .carry)).advance n)) ∧
  (∀ (s : State) (v : Byte), ∃ n, exec (.ofAluImm .adc v) s =
    .next ((afterAdd s v (s.flag .carry)).advance n)) ∧
  (∀ (a b : Byte) (cin : Bool),
    let r := BitVec.ofNat 8 (a.toNat + b.toNat + cin.toNat)
    (a.toNat + b.toNat + cin.toNat > 255 ↔ if cin then a ≥ 0xFF#8 - b else a > 0xFF#8 - b) ∧
    (a.toNat % 16 + b.toNat % 16 + cin.toNat > 15 ↔ (a ^^^ b ^^^ r).getLsbD 4 = true))

/-- R91 with the borrow polarity of D10, through SUB and SBC, every form. -/
def Obligations.SubAndSbcResult : Prop :=
  (∀ (s : State) (o : Operand8), ∃ n, exec (.ofAlu .sub o) s =
    .next ((afterSub (s.read8 o).2 (s.read8 o).1 false).advance n)) ∧
  (∀ (s : State) (v : Byte), ∃ n, exec (.ofAluImm .sub v) s = .next ((afterSub s v false).advance n)) ∧
  (∀ (s : State) (o : Operand8), ∃ n, exec (.ofAlu .sbc o) s =
    .next ((afterSub (s.read8 o).2 (s.read8 o).1 (s.flag .carry)).advance n)) ∧
  (∀ (s : State) (v : Byte), ∃ n, exec (.ofAluImm .sbc v) s =
    .next ((afterSub s v (s.flag .carry)).advance n))

/-- R117 to R119: CP writes the flags of the subtraction and nothing else. -/
def Obligations.CompareWritesOnlyFlags : Prop :=
  (∀ (s : State) (o : Operand8), ∃ n, exec (.ofAlu .cp o) s =
    .next ({ (s.read8 o).2 with f := borrowFlags s.a (s.read8 o).1 false }.advance n)) ∧
  (∀ (s : State) (v : Byte), ∃ n, exec (.ofAluImm .cp v) s =
    .next ({ s with f := borrowFlags s.a v false }.advance n))

/-- R92 through AND, OR and XOR, every form: Z iff the result is 0, H set by AND alone, N and C cleared. -/
def Obligations.LogicResult : Prop :=
  (∀ (s : State) (o : Operand8), let t := (s.read8 o).2; let v := (s.read8 o).1
    (∃ n, exec (.ofAlu .and o) s = .next ({ t with
      a := s.a &&& v, f := FlagSet.toByte ⟨s.a &&& v == 0#8, false, true, false⟩ }.advance n)) ∧
    (∃ n, exec (.ofAlu .or o) s = .next ({ t with
      a := s.a ||| v, f := FlagSet.toByte ⟨s.a ||| v == 0#8, false, false, false⟩ }.advance n)) ∧
    (∃ n, exec (.ofAlu .xor o) s = .next ({ t with
      a := s.a ^^^ v, f := FlagSet.toByte ⟨s.a ^^^ v == 0#8, false, false, false⟩ }.advance n))) ∧
  (∀ (s : State) (v : Byte),
    (∃ n, exec (.ofAluImm .and v) s = .next ({ s with
      a := s.a &&& v, f := FlagSet.toByte ⟨s.a &&& v == 0#8, false, true, false⟩ }.advance n)) ∧
    (∃ n, exec (.ofAluImm .or v) s = .next ({ s with
      a := s.a ||| v, f := FlagSet.toByte ⟨s.a ||| v == 0#8, false, false, false⟩ }.advance n)) ∧
    (∃ n, exec (.ofAluImm .xor v) s = .next ({ s with
      a := s.a ^^^ v, f := FlagSet.toByte ⟨s.a ^^^ v == 0#8, false, false, false⟩ }.advance n)))

/-- R93 through INC on every r8 operand: mod 2^8, H when the low digit was 15, C untouched; the rule's own
half-carry test is that. -/
def Obligations.Inc8Result : Prop :=
  (∀ (s : State) (o : Operand8), let t := (s.read8 o).2; let v := (s.read8 o).1
    ∃ n, exec (.ofInc o) s = .next ({ t.write8 o (BitVec.ofNat 8 (v.toNat + 1)) with
      f := withFlags s.f (decide (v.toNat = 255)) false (decide (v.toNat % 16 = 15)) (s.flag .carry) }.advance n)) ∧
  (∀ v : Byte, v.toNat % 16 = 15 ↔ (v ^^^ 1#8 ^^^ (v + 1#8)).getLsbD 4 = true)

/-- R94 with the borrow polarity of D10, through DEC on every r8 operand: mod 2^8, C untouched. -/
def Obligations.Dec8Result : Prop :=
  ∀ (s : State) (o : Operand8), let t := (s.read8 o).2; let v := (s.read8 o).1
    ∃ n, exec (.ofDec o) s = .next ({ t.write8 o (BitVec.ofNat 8 (v.toNat + 255)) with
      f := withFlags s.f (decide (v.toNat = 1)) true (decide (v.toNat % 16 = 0)) (s.flag .carry) }.advance n)

/-- R124 with D15: DAA by its branches, on numbers; the subtract branch keeps C. -/
def Obligations.DaaResult : Prop :=
  ∀ (s : State),
    let high := s.flag .carry || (!s.flag .subtract && decide (s.a.toNat > 0x99))
    let low := s.flag .halfCarry || (!s.flag .subtract && decide (s.a.toNat % 16 > 9))
    let k := (if high then 0x60 else 0) + (if low then 0x06 else 0)
    let r := BitVec.ofNat 8 (if s.flag .subtract then s.a.toNat + 256 - k else s.a.toNat + k)
    ∃ n, exec .daa s = .next ({ s with
      a := r, f := withFlags s.f (r == 0#8) (s.flag .subtract) false high }.advance n)

/-- Derived from R90, R91 and R124 (the source's example S5 generalised): DAA after ADD or SUB of two-digit
decimal numbers gives the two-digit decimal sum or difference, with C the decimal carry or borrow. -/
def Obligations.DaaGivesDecimalResult : Prop :=
  ∀ (s : State) (x y : Nat), x < 100 → y < 100 → s.a = bcd x →
    (∃ t u, exec (.ofAluImm .add (bcd y)) s = .next t ∧ exec .daa t = .next u ∧
      u.a = bcd ((x + y) % 100) ∧ u.flag .carry = decide (x + y ≥ 100)) ∧
    (∃ t u, exec (.ofAluImm .sub (bcd y)) s = .next t ∧ exec .daa t = .next u ∧
      u.a = bcd ((x + 100 - y) % 100) ∧ u.flag .carry = decide (x < y))

/-- R125 to R127: CPL, SCF and CCF. -/
def Obligations.CplScfCcfResult : Prop :=
  ∀ (s : State),
    (∃ n, exec .cpl s = .next ({ s with
      a := BitVec.ofNat 8 (255 - s.a.toNat), f := withFlags s.f (s.flag .zero) true true (s.flag .carry) }.advance n)) ∧
    (∃ n, exec .scf s = .next ({ s with f := withFlags s.f (s.flag .zero) false false true }.advance n)) ∧
    (∃ n, exec .ccf s = .next ({ s with
      f := withFlags s.f (s.flag .zero) false false (!s.flag .carry) }.advance n))

/-! ### 16-bit arithmetic -/

/-- R128 with D11, R130: ADD HL,rr: H the carry out of bit 11, C out of bit 15, Z kept. -/
def Obligations.AddHLResult : Prop :=
  ∀ (s : State) (p : Reg16), let x := s.hl.toNat; let y := (s.reg16 p).toNat
    ∃ n, exec (.ofAddHL p) s = .next ({ s.setHL (BitVec.ofNat 16 (x + y)) with
      f := withFlags s.f (s.flag .zero) false (decide (x % 4096 + y % 4096 > 4095)) (decide (x + y > 65535)) }.advance n)

/-- R131, R132 with D14: INC rr and DEC rr wrap mod 2^16 and write no flag. -/
def Obligations.Inc16AndDec16Result : Prop :=
  ∀ (s : State) (p : Reg16),
    (∃ n, exec (.ofInc16 p) s = .next ((s.setReg16 p (BitVec.ofNat 16 ((s.reg16 p).toNat + 1))).advance n)) ∧
    (∃ n, exec (.ofDec16 p) s = .next ((s.setReg16 p (BitVec.ofNat 16 ((s.reg16 p).toNat + 65535))).advance n))

/-- R129 with D12, R133, R134: the signed displacement added to SP, H and C the carries of the unsigned low-byte
addition, Z and N 0. -/
def Obligations.SpDisplacementResult : Prop :=
  ∀ (s : State) (e : Byte),
    let r := BitVec.ofInt 16 (s.sp.toNat + e.toInt)
    let f := FlagSet.toByte ⟨false, false, decide (s.sp.toNat % 16 + e.toNat % 16 > 15),
      decide (s.sp.toNat % 256 + e.toNat > 255)⟩
    (∃ n, exec (.add_SP_e8 e) s = .next ({ s with sp := r, f := f }.advance n)) ∧
    (∃ n, exec (.ld_HL_SPe8 e) s = .next ({ s.setHL r with f := f }.advance n))

/-! ### Rotates, shifts, bits -/

/-- R135, R138 through RLCA, RRCA, RLA, RRA: Z is 0 whatever the result. -/
def Obligations.AccumulatorRotateResult : Prop :=
  ∀ (s : State) (op : AccRot), let x := shifted (accOp op) s.a.toNat (s.flag .carry).toNat
    ∃ n, exec (.ofAccRot op) s = .next ({ s with
      a := BitVec.ofNat 8 x.1, f := FlagSet.toByte ⟨false, false, false, x.2⟩ }.advance n)

/-- R135 to R138 through the CB-page rotates, shifts and SWAP on every r8 operand. -/
def Obligations.RotateShiftSwapResult : Prop :=
  ∀ (s : State) (op : RotOp) (o : Operand8), let t := (s.read8 o).2; let v := (s.read8 o).1
    let x := shifted op v.toNat (s.flag .carry).toNat
    ∃ n, exec (.ofRot op o) s = .next ({ t.write8 o (BitVec.ofNat 8 x.1) with
      f := FlagSet.toByte ⟨decide (x.1 = 0), false, false, x.2⟩ }.advance n)

/-- R159, R160: BIT b: Z the complement of the bit, N 0, H 1, C kept, nothing else written. -/
def Obligations.BitTestResult : Prop :=
  ∀ (s : State) (b : Fin 8) (o : Operand8), let t := (s.read8 o).2; let v := (s.read8 o).1
    ∃ n, exec (.ofBit b o) s = .next ({ t with
      f := withFlags s.f (decide (v.toNat / 2 ^ b.val % 2 = 0)) false true (s.flag .carry) }.advance n)

/-- R161 to R164: RES and SET write the one bit and no flag; on (HL) the write happens even when the bit is
already so. -/
def Obligations.ResAndSetChangeOneBit : Prop :=
  ∀ (s : State) (b : Fin 8) (o : Operand8), let t := (s.read8 o).2; let v := (s.read8 o).1
    (∃ r n, exec (.ofRes b o) s = .next ((t.write8 o r).advance n) ∧
      ∀ j, j < 8 → r.getLsbD j = (decide (j ≠ b.val) && v.getLsbD j)) ∧
    (∃ r n, exec (.ofSet b o) s = .next ((t.write8 o r).advance n) ∧
      ∀ j, j < 8 → r.getLsbD j = (decide (j = b.val) || v.getLsbD j))

/-! ### Control transfer and stack -/

/-- R165: the condition unit tests Z or C against its expected state, and N and H never. -/
def Obligations.ConditionUnit : Prop :=
  ∀ (s : State),
    (s.cond .nz = true ↔ s.flag .zero = false) ∧ (s.cond .z = true ↔ s.flag .zero = true) ∧
    (s.cond .nc = true ↔ s.flag .carry = false) ∧ (s.cond .c = true ↔ s.flag .carry = true) ∧
    s.taken none = true ∧
    ∀ (t : State) (k : Cond), t.flag .zero = s.flag .zero → t.flag .carry = s.flag .carry → t.cond k = s.cond k

/-- R170 to R174 with D13: jumps write PC when taken and nothing else; a relative target is signed and counted
from the address after the instruction; JP HL reads no memory. -/
def Obligations.JumpResult : Prop :=
  ∀ (s : State) (k : Option Cond) (nn : Word) (e : Byte),
    (∃ n, exec (.ofJp k nn) s = .next ({ s with pc := if s.taken k then nn else s.pc }.advance n)) ∧
    (∃ n, exec (.ofJr k e) s = .next ({ s with
      pc := if s.taken k then BitVec.ofInt 16 (s.pc.toNat + e.toInt) else s.pc }.advance n)) ∧
    (∃ n, exec .jp_HL s = .next ({ s with pc := s.hl }.advance n))

/-- R166, R175, R176, R180: CALL (if its condition holds) and RST push the address of the next instruction, the
high byte at SP-1 and the low byte at SP-2, lower SP by 2 and go to their target. -/
def Obligations.CallAndRestartResult : Prop :=
  ∀ (s : State) (k : Option Cond) (nn : Word) (t : Fin 8),
    let pushed := (s.store (s.sp - 1#16) (hiByte s.pc)).store (s.sp - 2#16) (loByte s.pc)
    (∃ n, exec (.ofCall k nn) s = .next ((if s.taken k then
      { pushed with sp := s.sp - 2#16, pc := nn } else s).advance n)) ∧
    (∃ n, exec (.ofRst t) s = .next ({ pushed with
      sp := s.sp - 2#16, pc := BitVec.ofNat 16 (8 * t.val) }.advance n))

/-- R167, R177 to R179: RET (if its condition holds) and RETI pop PC, low byte at SP, high byte at SP+1, and raise
SP by 2; RETI also reports `reti`. -/
def Obligations.ReturnResult : Prop :=
  ∀ (s : State) (k : Option Cond),
    let lo := s.load s.sp
    let hi := lo.2.load (s.sp + 1#16)
    let popped := { hi.2 with sp := s.sp + 2#16, pc := joinBytes hi.1 lo.1 }
    (∃ n, exec (.ofRet k) s = .next ((if s.taken k then popped else s).advance n)) ∧
    (∃ n, exec .reti s = .next ({ popped with event := .reti }.advance n))

/-- R166, R181: PUSH stores the pair, high byte at SP-1, low byte at SP-2, and lowers SP by 2. -/
def Obligations.PushResult : Prop :=
  ∀ (s : State) (p : StackPair), ∃ n, exec (.ofPush p) s =
    .next ({ (s.store (s.sp - 1#16) (hiByte (s.stackPair p))).store (s.sp - 2#16) (loByte (s.stackPair p)) with
      sp := s.sp - 2#16 }.advance n)

/-- R167, R182, R183: POP loads the pair from SP and SP+1 and raises SP by 2; F takes the low byte with bits 3 to 0
masked to zero. -/
def Obligations.PopResult : Prop :=
  ∀ (s : State),
    let lo := s.load s.sp
    let hi := lo.2.load (s.sp + 1#16)
    let t := { hi.2 with sp := s.sp + 2#16 }
    (∃ n, exec (.ofPop .bc) s = .next ({ t with b := hi.1, c := lo.1 }.advance n)) ∧
    (∃ n, exec (.ofPop .de) s = .next ({ t with d := hi.1, e := lo.1 }.advance n)) ∧
    (∃ n, exec (.ofPop .hl) s = .next ({ t with h := hi.1, l := lo.1 }.advance n)) ∧
    (∃ n, exec (.ofPop .af) s = .next ({ t with a := hi.1, f := lo.1 &&& 0xF0#8 }.advance n))

/-- R168: a push followed by a pop returns the value and restores SP, wherever SP stands; the bytes below the
stack are as a word in memory (R57). -/
def Obligations.PushThenPopReturnsValue : Prop :=
  ∀ (s : State) (v : Word), s.params.bus = .flat → s.mem.wf = true →
    (s.push16 v).pop16.1 = v ∧ (s.push16 v).pop16.2.sp = s.sp ∧
    ((s.push16 v).loadWord (s.push16 v).sp).1 = v

/-! ### Loads and stores -/

/-- R185 to R189: LD between r8 operands and of d8: the source is read before the destination is written, no flag. -/
def Obligations.Load8Result : Prop :=
  ∀ (s : State) (v : Byte),
    (∀ (r q : Reg8), ∃ n, exec (.ofLd (.reg r) (.reg q)) s = .next ((s.setReg r (s.reg q)).advance n)) ∧
    (∀ (r : Reg8), ∃ n, exec (.ofLd (.reg r) .atHL) s =
      .next (((s.load s.hl).2.setReg r (s.load s.hl).1).advance n)) ∧
    (∀ (q : Reg8), ∃ n, exec (.ofLd .atHL (.reg q)) s = .next ((s.store s.hl (s.reg q)).advance n)) ∧
    (∀ (r : Reg8), ∃ n, exec (.ofLdImm (.reg r) v) s = .next ((s.setReg r v).advance n)) ∧
    (∃ n, exec (.ofLdImm .atHL v) s = .next ((s.store s.hl v).advance n))

/-- R190 to R197: the accumulator indirect loads and stores; (HL+) and (HL-) move HL after the access, mod 2^16. -/
def Obligations.AccumulatorIndirectResult : Prop :=
  ∀ (s : State),
    (∃ n, exec (.ofStoreA .bc) s = .next ((s.store s.bc s.a).advance n)) ∧
    (∃ n, exec (.ofStoreA .de) s = .next ((s.store s.de s.a).advance n)) ∧
    (∃ n, exec (.ofStoreA .hlInc) s =
      .next (((s.store s.hl s.a).setHL (BitVec.ofNat 16 (s.hl.toNat + 1))).advance n)) ∧
    (∃ n, exec (.ofStoreA .hlDec) s =
      .next (((s.store s.hl s.a).setHL (BitVec.ofNat 16 (s.hl.toNat + 65535))).advance n)) ∧
    (∃ n, exec (.ofLoadA .bc) s = .next ({ (s.load s.bc).2 with a := (s.load s.bc).1 }.advance n)) ∧
    (∃ n, exec (.ofLoadA .de) s = .next ({ (s.load s.de).2 with a := (s.load s.de).1 }.advance n)) ∧
    (∃ n, exec (.ofLoadA .hlInc) s = .next (({ (s.load s.hl).2 with
      a := (s.load s.hl).1 }.setHL (BitVec.ofNat 16 (s.hl.toNat + 1))).advance n)) ∧
    (∃ n, exec (.ofLoadA .hlDec) s = .next (({ (s.load s.hl).2 with
      a := (s.load s.hl).1 }.setHL (BitVec.ofNat 16 (s.hl.toNat + 65535))).advance n))

/-- R198 to R203 with D32: A to and from an absolute address, and the high page at 0xFF00 plus a8 or C. -/
def Obligations.AbsoluteAndHighPageResult : Prop :=
  ∀ (s : State) (nn : Word) (e : Byte),
    (∃ n, exec (.ld_atA16_A nn) s = .next ((s.store nn s.a).advance n)) ∧
    (∃ n, exec (.ld_A_atA16 nn) s = .next ({ (s.load nn).2 with a := (s.load nn).1 }.advance n)) ∧
    (∃ n, exec (.ldh_atA8_A e) s = .next ((s.store (BitVec.ofNat 16 (0xFF00 + e.toNat)) s.a).advance n)) ∧
    (∃ n, exec (.ldh_A_atA8 e) s = .next ({ (s.load (BitVec.ofNat 16 (0xFF00 + e.toNat))).2 with
      a := (s.load (BitVec.ofNat 16 (0xFF00 + e.toNat))).1 }.advance n)) ∧
    (∃ n, exec .ld_atC_A s = .next ((s.store (BitVec.ofNat 16 (0xFF00 + s.c.toNat)) s.a).advance n)) ∧
    (∃ n, exec .ld_A_atC s = .next ({ (s.load (BitVec.ofNat 16 (0xFF00 + s.c.toNat))).2 with
      a := (s.load (BitVec.ofNat 16 (0xFF00 + s.c.toNat))).1 }.advance n))

/-- R204 to R206: the 16-bit loads; LD (a16),SP stores the low byte first, the high byte at the next address. -/
def Obligations.Load16Result : Prop :=
  ∀ (s : State) (nn : Word),
    (∃ n, exec (.ofLd16 .bc nn) s = .next ({ s with b := hiByte nn, c := loByte nn }.advance n)) ∧
    (∃ n, exec (.ofLd16 .de nn) s = .next ({ s with d := hiByte nn, e := loByte nn }.advance n)) ∧
    (∃ n, exec (.ofLd16 .hl nn) s = .next ({ s with h := hiByte nn, l := loByte nn }.advance n)) ∧
    (∃ n, exec (.ofLd16 .sp nn) s = .next ({ s with sp := nn }.advance n)) ∧
    (∃ n, exec (.ld_atA16_SP nn) s =
      .next (((s.store nn (loByte s.sp)).store (nn + 1#16) (hiByte s.sp)).advance n)) ∧
    (∃ n, exec .ld_SP_HL s = .next ({ s with sp := s.hl }.advance n))

/-! ### The CB prefix and the control instructions -/

/-- R210 to R214 with D17: NOP changes nothing; HALT, STOP, DI and EI only report their event. -/
def Obligations.ControlInstructionsOnlyReportEvents : Prop :=
  ∀ (s : State),
    (∃ n, exec .nop s = .next (s.advance n)) ∧
    (∃ n, exec .halt s = .next ({ s with event := .halt }.advance n)) ∧
    (∃ n, exec .stop s = .next ({ s with event := .stop }.advance n)) ∧
    (∃ n, exec .di s = .next ({ s with event := .di }.advance n)) ∧
    (∃ n, exec .ei s = .next ({ s with event := .ei }.advance n))

/-- R215 and R45 with D19: an illegal slot is a no-op under nop mode; under lock mode it sets the lock bit, and
every later dispatch is STUCK and answers no new state. -/
def Obligations.IllegalSlotResult : Prop :=
  ∀ (s : State) (k : IllegalSlot),
    (s.params.illegalMode = .nop → ∃ n, exec (.ofIllegal k) s = .next (s.advance n)) ∧
    (s.params.illegalMode = .lock → ∃ n t, exec (.ofIllegal k) s = .next t ∧
      t = { s with locked := true }.advance n ∧ step t = .fault .stuck)

/-- R209 with D33: PREFIX CB performs the CB row its second byte selects, for each of the 256 bytes. -/
def Obligations.PrefixCbRunsTheCbRow : Prop :=
  ∀ (s : State) (cb : Byte),
    exec (.prefixCb cb) s = exec (decodeCb cb) s ∧ ∃ t, exec (.prefixCb cb) s = .next t

/-! ### Decoding -/

/-- Encoding and decoding agree: every well-formed instruction decodes from its own bytes, whatever follows. -/
def Obligations.DecodeOfEncode : Prop :=
  ∀ (sl : Config.StopLength) (i : Instr) (rest : List Byte), i.wellFormed = true →
    decode sl (encode sl i ++ rest) = .ok (i, rest)

/-- The other direction: what decodes to an instruction is its own bytes, but for the byte STOP ignores (R212). -/
def Obligations.EncodeOfDecode : Prop :=
  ∀ (sl : Config.StopLength) (bs rest : List Byte) (i : Instr), decode sl bs = .ok (i, rest) →
    i.wellFormed = true ∧ (i ≠ .stop → bs = encode sl i ++ rest) ∧
    (i = .stop → ∃ skipped, bs = 0x10#8 :: skipped ++ rest ∧ skipped.length + 1 = i.length sl)

/-- R84: the decoder is total: bytes that hold as many as their first byte says (one, two or three) decode to an
instruction of that length, whatever they are, and bytes are rejected only where they end before it. -/
def Obligations.DecoderIsTotal : Prop :=
  ∀ (sl : Config.StopLength),
    (∀ (op : Byte) (rest : List Byte), lengthOf sl op ≤ (op :: rest).length →
      ∃ i, decode sl (op :: rest) = .ok (i, (op :: rest).drop (lengthOf sl op)) ∧ i.length sl = lengthOf sl op) ∧
    (∀ (op : Byte), 1 ≤ lengthOf sl op ∧ lengthOf sl op ≤ 3) ∧
    decode sl [] = .error .truncated ∧
    (∀ (op : Byte) (rest : List Byte), (op :: rest).length < lengthOf sl op →
      decode sl (op :: rest) = .error .truncated)

/-- R84: every one of the 512 slots holds an instruction, and only one. -/
def Obligations.EverySlotHoldsOneInstruction : Prop :=
  (∀ (sl : Slot), ∃ i, slotOf i = sl) ∧
  ∀ (i j : Instr), slotOf i = slotOf j → mnemonicOf i = mnemonicOf j

/-- Words written out from the opcode maps of R88 and R89 decode to their instructions. -/
def Obligations.WordsDecodeAsTheMapsSay : Prop :=
  decode .two [0x78#8] = .ok (.ld_A_B, []) ∧ decode .two [0x86#8] = .ok (.add_A_atHL, []) ∧
  decode .two [0xC2#8, 0x34#8, 0x12#8] = .ok (.jp_NZ_a16 0x1234, []) ∧
  decode .two [0xCB#8, 0x7C#8] = .ok (.bit_7_H, []) ∧ decode .two [0xE8#8, 0xFE#8] = .ok (.add_SP_e8 0xFE, []) ∧
  decode .two [0x10#8, 0x55#8] = .ok (.stop, []) ∧ decode .one [0x10#8, 0x55#8] = .ok (.stop, [0x55#8]) ∧
  decode .two [0xF1#8] = .ok (.pop_AF, []) ∧ decode .two [0xD3#8] = .ok (.illegal_D3, []) ∧
  decodeTableWord 8 0x80 = some .add_A_B ∧ decodeTableWord 16 0xCB37 = some .swap_A

/-! ### The step -/

/-- R207 on a flat bus: when the bytes at PC decode to an instruction, the step is `exec` of it with PC after its
bytes, no event yet, and its slot noted; unless the machine is STUCK. -/
def Obligations.StepRunsTheDecodedInstruction : Prop :=
  ∀ (s : State) (i : Instr) (rest : List Byte), s.isStuck = false → s.params.bus = .flat →
    decode s.params.stopLength (bytesAt s.mem s.pc) = .ok (i, rest) →
    i.wellFormed = true ∧
    step s = exec i { s with
      pc := s.pc + BitVec.ofNat 16 (i.length s.params.stopLength), event := .none, executed := some (slotOf i) }

/-- R207, R60, R80 on an external bus, whatever its reads return: the step fetches exactly the bytes of one
instruction, in address order, each an event of the bus, and then is `exec` of that instruction. -/
def Obligations.StepOnExternalBus : Prop :=
  ∀ (s : State), s.isStuck = false → s.params.bus = .external → ∃ (bs : List Byte) (i : Instr),
    decode s.params.stopLength bs = .ok (i, []) ∧
    step s = exec i { s with
      pc := s.pc + BitVec.ofNat 16 bs.length, event := .none, executed := some (slotOf i),
      busLog := (reads s.pc bs).reverse ++ s.busLog }

/-- R216: no instruction of the table raises an exception: each answers a next state, in every state. -/
def Obligations.NoInstructionRaisesAnException : Prop :=
  ∀ (i : Instr) (s : State), ∃ t, exec i s = .next t

/-- R207, R45: a dispatch fails on no byte value; it is STUCK exactly when lock mode has locked it. -/
def Obligations.StepStopsOnlyWhenStuck : Prop :=
  ∀ (s : State),
    (s.params.illegalMode = .lock ∧ s.locked = true → step s = .fault .stuck) ∧
    (¬(s.params.illegalMode = .lock ∧ s.locked = true) → ∃ t, step s = .next t)

/-- The invariant is kept by every step, from any state that has it: F[3:0] = 0 (R31), `coarse = fine * 4` (R39),
canonical memory, and no lock bit outside lock mode (R45). -/
def Obligations.StepKeepsTheInvariant : Prop :=
  ∀ (s t : State), s.Inv → step s = .next t → t.Inv

/-- The invariant holds after reset, and after the reset operation whatever the draws. -/
def Obligations.ResetHasTheInvariant : Prop :=
  State.reset.Inv ∧ ∀ (s : State) (regs : Config.ResetRegs) (pc : Word), s.mem.wf = true → (s.resetWith regs pc).Inv

/-- R48, R233: reset leaves the clock 0, F[3:0] 0, PC at RESET_PC and the bit clear, and takes the other registers
from RESET_REGS; it touches no memory and no parameter. `State.reset` is that operation with the model's named
values (DESIGN CHOICE, assumption 1). -/
def Obligations.ResetLeavesTheSpecsValues : Prop :=
  (∀ (s : State) (r : Config.ResetRegs) (pc : Word), let t := s.resetWith r pc
    t.fine = 0 ∧ t.coarse = 0 ∧ t.f.toNat = 16 * r.flags.toNat ∧ t.pc = pc ∧ t.locked = false ∧
    t.a = r.a ∧ t.b = r.b ∧ t.c = r.c ∧ t.d = r.d ∧ t.e = r.e ∧ t.h = r.h ∧ t.l = r.l ∧ t.sp = r.sp ∧
    t.mem = s.mem ∧ t.params = s.params ∧ t.busLog = s.busLog) ∧
  State.reset.pc = 0x0000 ∧ State.reset = State.reset.resetWith Config.resetRegs Config.resetPc

/-- R40: `advance(n)` adds `n` to the fine counter and makes the coarse one four times it; nothing else changes. -/
def Obligations.AdvanceAddsMCycles : Prop :=
  ∀ (s : State) (n : Nat),
    (s.advance n).fine.toNat = (s.fine.toNat + n) % 2 ^ 64 ∧
    (s.advance n).coarse.toNat = 4 * (s.fine.toNat + n) % 2 ^ 64 ∧
    s.advance n = { s with fine := (s.advance n).fine, coarse := (s.advance n).coarse }

/-- R240, R242 (D20): every instruction advances the clock by its declared cost under the `CYCLE_TABLE` of the
state, the taken or the not-taken one, and `coarse` to four times `fine`. A table that names nothing is the table of
R241, and every total function from descriptor and taken-ness to a natural number is some table. -/
def Obligations.ClockAdvancesByDeclaredCost : Prop :=
  (∀ (i : Instr) (s : State), ∃ t, exec i s = .next t ∧
    t.fine = s.fine + BitVec.ofNat 64 (declaredCost s.params.cycles i (takenBy i s)) ∧ t.coarse = t.fine * 4#64) ∧
  (∀ (i : Instr) (taken : Bool), declaredCost [] i taken =
    if taken then (cycleTable i.effective.form).1 else (cycleTable i.effective.form).2) ∧
  ∀ (cost : Slot → Bool → Nat), ∃ (table : Config.CycleTable), ∀ (i : Instr) (taken : Bool),
    declaredCost table i taken = cost (slotOf i.effective) taken

/-- R227, R242: no instruction reads the clock: two states that differ only in it step to states that differ only
in it. Under an external bus this rests on the model's choice that a read does not depend on the clock (assumption
3). -/
def Obligations.NothingDependsOnTheClock : Prop :=
  ∀ (s : State) (x y : Cycles), s.isStuck = false →
    ∃ t u, step s = .next t ∧ step { s with fine := x, coarse := y } = .next u ∧ u.eraseClock = t.eraseClock

/-! ### What an instruction leaves alone -/

/-- R35: every flag is constant, computed or unchanged exactly as the table says, for all 512 instructions. -/
def Obligations.FlagsChangeAsTheTableSays : Prop :=
  ∀ (i : Instr) (s t : State), exec i s = .next t →
    ∀ k : FlagId, ((flagTable i.effective.form).at k).holds (s.flag k) (t.flag k)

/-- The frame of memory: every byte an instruction does not store to reads as before; the bytes stored to are those
its meaning addresses (R59). -/
def Obligations.OnlyStoredBytesChange : Prop :=
  ∀ (i : Instr) (s t : State), exec i s = .next t →
    ∀ x : Word, x ∉ storedBytes s i.effective.form → t.mem.read x.toNat = s.mem.read x.toNat

/-- The frame of the registers (R29): an 8-bit register, SP or PC changes only by an instruction whose rule writes
it; the parameters and the returned descriptor never; the event only by the five instructions that report one
(R225); the lock bit only by an illegal slot (R45). -/
def Obligations.OnlyNamedRegistersChange : Prop :=
  ∀ (i : Instr) (s t : State), exec i s = .next t →
    (∀ r, r ∉ writtenRegs i.effective.form → t.reg r = s.reg r) ∧
    (writesSP i.effective.form = false → t.sp = s.sp) ∧
    (writesPC i.effective.form = false → t.pc = s.pc) ∧
    t.params = s.params ∧ t.executed = s.executed ∧
    t.event = (eventOf i.effective.form).getD s.event ∧
    (t.locked ≠ s.locked → s.params.illegalMode = .lock ∧ ∃ k, i = .ofIllegal k)

/-! ### The host between dispatches -/

/-- R221 with D28: under `dmg_entry` the host's interrupt entry pushes PC, goes to the vector and advances five
M-cycles; under `none` it does nothing. -/
def Obligations.InterruptEntryPushesPc : Prop :=
  ∀ (s : State) (v : Vector),
    s.interruptEntry .none v = s ∧
    s.interruptEntry .dmgEntry v =
      { (s.store (s.sp - 1#16) (hiByte s.pc)).store (s.sp - 2#16) (loByte s.pc) with
        sp := s.sp - 2#16, pc := v.address }.advance 5 ∧
    v.address.toNat ∈ [0x40, 0x48, 0x50, 0x58, 0x60]
end

