-- ==== Sys2Proof/Laws/State.lean ====
section
/-! SUPPORT. One lemma per field per update of the state, so that no proof unfolds a record update. -/

namespace Sys2Proof.Machine

variable (s : State)

@[simp] theorem setFlagsValue_a (v : Byte) : (s.setFlagsValue v).a = s.a := rfl
@[simp] theorem setFlagsValue_f (v : Byte) : (s.setFlagsValue v).f = v &&& 0xF0#8 := rfl
@[simp] theorem setFlagsValue_b (v : Byte) : (s.setFlagsValue v).b = s.b := rfl
@[simp] theorem setFlagsValue_c (v : Byte) : (s.setFlagsValue v).c = s.c := rfl
@[simp] theorem setFlagsValue_d (v : Byte) : (s.setFlagsValue v).d = s.d := rfl
@[simp] theorem setFlagsValue_e (v : Byte) : (s.setFlagsValue v).e = s.e := rfl
@[simp] theorem setFlagsValue_h (v : Byte) : (s.setFlagsValue v).h = s.h := rfl
@[simp] theorem setFlagsValue_l (v : Byte) : (s.setFlagsValue v).l = s.l := rfl
@[simp] theorem setFlagsValue_sp (v : Byte) : (s.setFlagsValue v).sp = s.sp := rfl
@[simp] theorem setFlagsValue_pc (v : Byte) : (s.setFlagsValue v).pc = s.pc := rfl
@[simp] theorem setFlagsValue_fine (v : Byte) : (s.setFlagsValue v).fine = s.fine := rfl
@[simp] theorem setFlagsValue_coarse (v : Byte) : (s.setFlagsValue v).coarse = s.coarse := rfl
@[simp] theorem setFlagsValue_locked (v : Byte) : (s.setFlagsValue v).locked = s.locked := rfl
@[simp] theorem setFlagsValue_mem (v : Byte) : (s.setFlagsValue v).mem = s.mem := rfl
@[simp] theorem setFlagsValue_params (v : Byte) : (s.setFlagsValue v).params = s.params := rfl
@[simp] theorem setFlagsValue_event (v : Byte) : (s.setFlagsValue v).event = s.event := rfl
@[simp] theorem setFlagsValue_executed (v : Byte) : (s.setFlagsValue v).executed = s.executed := rfl
@[simp] theorem setFlagsValue_busLog (v : Byte) : (s.setFlagsValue v).busLog = s.busLog := rfl

@[simp] theorem putFlag_a (k : FlagId) (v : Bool) : (s.putFlag k v).a = s.a := rfl
@[simp] theorem putFlag_f (k : FlagId) (v : Bool) : (s.putFlag k v).f = putBit s.f k.position v := rfl
@[simp] theorem putFlag_b (k : FlagId) (v : Bool) : (s.putFlag k v).b = s.b := rfl
@[simp] theorem putFlag_c (k : FlagId) (v : Bool) : (s.putFlag k v).c = s.c := rfl
@[simp] theorem putFlag_d (k : FlagId) (v : Bool) : (s.putFlag k v).d = s.d := rfl
@[simp] theorem putFlag_e (k : FlagId) (v : Bool) : (s.putFlag k v).e = s.e := rfl
@[simp] theorem putFlag_h (k : FlagId) (v : Bool) : (s.putFlag k v).h = s.h := rfl
@[simp] theorem putFlag_l (k : FlagId) (v : Bool) : (s.putFlag k v).l = s.l := rfl
@[simp] theorem putFlag_sp (k : FlagId) (v : Bool) : (s.putFlag k v).sp = s.sp := rfl
@[simp] theorem putFlag_pc (k : FlagId) (v : Bool) : (s.putFlag k v).pc = s.pc := rfl
@[simp] theorem putFlag_fine (k : FlagId) (v : Bool) : (s.putFlag k v).fine = s.fine := rfl
@[simp] theorem putFlag_coarse (k : FlagId) (v : Bool) : (s.putFlag k v).coarse = s.coarse := rfl
@[simp] theorem putFlag_locked (k : FlagId) (v : Bool) : (s.putFlag k v).locked = s.locked := rfl
@[simp] theorem putFlag_mem (k : FlagId) (v : Bool) : (s.putFlag k v).mem = s.mem := rfl
@[simp] theorem putFlag_params (k : FlagId) (v : Bool) : (s.putFlag k v).params = s.params := rfl
@[simp] theorem putFlag_event (k : FlagId) (v : Bool) : (s.putFlag k v).event = s.event := rfl
@[simp] theorem putFlag_executed (k : FlagId) (v : Bool) : (s.putFlag k v).executed = s.executed := rfl
@[simp] theorem putFlag_busLog (k : FlagId) (v : Bool) : (s.putFlag k v).busLog = s.busLog := rfl

@[simp] theorem writeFlags_a (fl : FlagSet) : (s.writeFlags fl).a = s.a := rfl
@[simp] theorem writeFlags_b (fl : FlagSet) : (s.writeFlags fl).b = s.b := rfl
@[simp] theorem writeFlags_c (fl : FlagSet) : (s.writeFlags fl).c = s.c := rfl
@[simp] theorem writeFlags_d (fl : FlagSet) : (s.writeFlags fl).d = s.d := rfl
@[simp] theorem writeFlags_e (fl : FlagSet) : (s.writeFlags fl).e = s.e := rfl
@[simp] theorem writeFlags_h (fl : FlagSet) : (s.writeFlags fl).h = s.h := rfl
@[simp] theorem writeFlags_l (fl : FlagSet) : (s.writeFlags fl).l = s.l := rfl
@[simp] theorem writeFlags_sp (fl : FlagSet) : (s.writeFlags fl).sp = s.sp := rfl
@[simp] theorem writeFlags_pc (fl : FlagSet) : (s.writeFlags fl).pc = s.pc := rfl
@[simp] theorem writeFlags_fine (fl : FlagSet) : (s.writeFlags fl).fine = s.fine := rfl
@[simp] theorem writeFlags_coarse (fl : FlagSet) : (s.writeFlags fl).coarse = s.coarse := rfl
@[simp] theorem writeFlags_locked (fl : FlagSet) : (s.writeFlags fl).locked = s.locked := rfl
@[simp] theorem writeFlags_mem (fl : FlagSet) : (s.writeFlags fl).mem = s.mem := rfl
@[simp] theorem writeFlags_params (fl : FlagSet) : (s.writeFlags fl).params = s.params := rfl
@[simp] theorem writeFlags_event (fl : FlagSet) : (s.writeFlags fl).event = s.event := rfl
@[simp] theorem writeFlags_executed (fl : FlagSet) : (s.writeFlags fl).executed = s.executed := rfl
@[simp] theorem writeFlags_busLog (fl : FlagSet) : (s.writeFlags fl).busLog = s.busLog := rfl

@[simp] theorem writeZNH_a (fl : FlagSet) : (s.writeZNH fl).a = s.a := rfl
@[simp] theorem writeZNH_b (fl : FlagSet) : (s.writeZNH fl).b = s.b := rfl
@[simp] theorem writeZNH_c (fl : FlagSet) : (s.writeZNH fl).c = s.c := rfl
@[simp] theorem writeZNH_d (fl : FlagSet) : (s.writeZNH fl).d = s.d := rfl
@[simp] theorem writeZNH_e (fl : FlagSet) : (s.writeZNH fl).e = s.e := rfl
@[simp] theorem writeZNH_h (fl : FlagSet) : (s.writeZNH fl).h = s.h := rfl
@[simp] theorem writeZNH_l (fl : FlagSet) : (s.writeZNH fl).l = s.l := rfl
@[simp] theorem writeZNH_sp (fl : FlagSet) : (s.writeZNH fl).sp = s.sp := rfl
@[simp] theorem writeZNH_pc (fl : FlagSet) : (s.writeZNH fl).pc = s.pc := rfl
@[simp] theorem writeZNH_fine (fl : FlagSet) : (s.writeZNH fl).fine = s.fine := rfl
@[simp] theorem writeZNH_coarse (fl : FlagSet) : (s.writeZNH fl).coarse = s.coarse := rfl
@[simp] theorem writeZNH_locked (fl : FlagSet) : (s.writeZNH fl).locked = s.locked := rfl
@[simp] theorem writeZNH_mem (fl : FlagSet) : (s.writeZNH fl).mem = s.mem := rfl
@[simp] theorem writeZNH_params (fl : FlagSet) : (s.writeZNH fl).params = s.params := rfl
@[simp] theorem writeZNH_event (fl : FlagSet) : (s.writeZNH fl).event = s.event := rfl
@[simp] theorem writeZNH_executed (fl : FlagSet) : (s.writeZNH fl).executed = s.executed := rfl
@[simp] theorem writeZNH_busLog (fl : FlagSet) : (s.writeZNH fl).busLog = s.busLog := rfl

@[simp] theorem writeNHC_a (fl : FlagSet) : (s.writeNHC fl).a = s.a := rfl
@[simp] theorem writeNHC_b (fl : FlagSet) : (s.writeNHC fl).b = s.b := rfl
@[simp] theorem writeNHC_c (fl : FlagSet) : (s.writeNHC fl).c = s.c := rfl
@[simp] theorem writeNHC_d (fl : FlagSet) : (s.writeNHC fl).d = s.d := rfl
@[simp] theorem writeNHC_e (fl : FlagSet) : (s.writeNHC fl).e = s.e := rfl
@[simp] theorem writeNHC_h (fl : FlagSet) : (s.writeNHC fl).h = s.h := rfl
@[simp] theorem writeNHC_l (fl : FlagSet) : (s.writeNHC fl).l = s.l := rfl
@[simp] theorem writeNHC_sp (fl : FlagSet) : (s.writeNHC fl).sp = s.sp := rfl
@[simp] theorem writeNHC_pc (fl : FlagSet) : (s.writeNHC fl).pc = s.pc := rfl
@[simp] theorem writeNHC_fine (fl : FlagSet) : (s.writeNHC fl).fine = s.fine := rfl
@[simp] theorem writeNHC_coarse (fl : FlagSet) : (s.writeNHC fl).coarse = s.coarse := rfl
@[simp] theorem writeNHC_locked (fl : FlagSet) : (s.writeNHC fl).locked = s.locked := rfl
@[simp] theorem writeNHC_mem (fl : FlagSet) : (s.writeNHC fl).mem = s.mem := rfl
@[simp] theorem writeNHC_params (fl : FlagSet) : (s.writeNHC fl).params = s.params := rfl
@[simp] theorem writeNHC_event (fl : FlagSet) : (s.writeNHC fl).event = s.event := rfl
@[simp] theorem writeNHC_executed (fl : FlagSet) : (s.writeNHC fl).executed = s.executed := rfl
@[simp] theorem writeNHC_busLog (fl : FlagSet) : (s.writeNHC fl).busLog = s.busLog := rfl

@[simp] theorem setBC_a (v : Word) : (s.setBC v).a = s.a := rfl
@[simp] theorem setBC_f (v : Word) : (s.setBC v).f = s.f := rfl
@[simp] theorem setBC_b (v : Word) : (s.setBC v).b = hiByte v := rfl
@[simp] theorem setBC_c (v : Word) : (s.setBC v).c = loByte v := rfl
@[simp] theorem setBC_d (v : Word) : (s.setBC v).d = s.d := rfl
@[simp] theorem setBC_e (v : Word) : (s.setBC v).e = s.e := rfl
@[simp] theorem setBC_h (v : Word) : (s.setBC v).h = s.h := rfl
@[simp] theorem setBC_l (v : Word) : (s.setBC v).l = s.l := rfl
@[simp] theorem setBC_sp (v : Word) : (s.setBC v).sp = s.sp := rfl
@[simp] theorem setBC_pc (v : Word) : (s.setBC v).pc = s.pc := rfl
@[simp] theorem setBC_fine (v : Word) : (s.setBC v).fine = s.fine := rfl
@[simp] theorem setBC_coarse (v : Word) : (s.setBC v).coarse = s.coarse := rfl
@[simp] theorem setBC_locked (v : Word) : (s.setBC v).locked = s.locked := rfl
@[simp] theorem setBC_mem (v : Word) : (s.setBC v).mem = s.mem := rfl
@[simp] theorem setBC_params (v : Word) : (s.setBC v).params = s.params := rfl
@[simp] theorem setBC_event (v : Word) : (s.setBC v).event = s.event := rfl
@[simp] theorem setBC_executed (v : Word) : (s.setBC v).executed = s.executed := rfl
@[simp] theorem setBC_busLog (v : Word) : (s.setBC v).busLog = s.busLog := rfl

@[simp] theorem setDE_a (v : Word) : (s.setDE v).a = s.a := rfl
@[simp] theorem setDE_f (v : Word) : (s.setDE v).f = s.f := rfl
@[simp] theorem setDE_b (v : Word) : (s.setDE v).b = s.b := rfl
@[simp] theorem setDE_c (v : Word) : (s.setDE v).c = s.c := rfl
@[simp] theorem setDE_d (v : Word) : (s.setDE v).d = hiByte v := rfl
@[simp] theorem setDE_e (v : Word) : (s.setDE v).e = loByte v := rfl
@[simp] theorem setDE_h (v : Word) : (s.setDE v).h = s.h := rfl
@[simp] theorem setDE_l (v : Word) : (s.setDE v).l = s.l := rfl
@[simp] theorem setDE_sp (v : Word) : (s.setDE v).sp = s.sp := rfl
@[simp] theorem setDE_pc (v : Word) : (s.setDE v).pc = s.pc := rfl
@[simp] theorem setDE_fine (v : Word) : (s.setDE v).fine = s.fine := rfl
@[simp] theorem setDE_coarse (v : Word) : (s.setDE v).coarse = s.coarse := rfl
@[simp] theorem setDE_locked (v : Word) : (s.setDE v).locked = s.locked := rfl
@[simp] theorem setDE_mem (v : Word) : (s.setDE v).mem = s.mem := rfl
@[simp] theorem setDE_params (v : Word) : (s.setDE v).params = s.params := rfl
@[simp] theorem setDE_event (v : Word) : (s.setDE v).event = s.event := rfl
@[simp] theorem setDE_executed (v : Word) : (s.setDE v).executed = s.executed := rfl
@[simp] theorem setDE_busLog (v : Word) : (s.setDE v).busLog = s.busLog := rfl

@[simp] theorem setHL_a (v : Word) : (s.setHL v).a = s.a := rfl
@[simp] theorem setHL_f (v : Word) : (s.setHL v).f = s.f := rfl
@[simp] theorem setHL_b (v : Word) : (s.setHL v).b = s.b := rfl
@[simp] theorem setHL_c (v : Word) : (s.setHL v).c = s.c := rfl
@[simp] theorem setHL_d (v : Word) : (s.setHL v).d = s.d := rfl
@[simp] theorem setHL_e (v : Word) : (s.setHL v).e = s.e := rfl
@[simp] theorem setHL_h (v : Word) : (s.setHL v).h = hiByte v := rfl
@[simp] theorem setHL_l (v : Word) : (s.setHL v).l = loByte v := rfl
@[simp] theorem setHL_sp (v : Word) : (s.setHL v).sp = s.sp := rfl
@[simp] theorem setHL_pc (v : Word) : (s.setHL v).pc = s.pc := rfl
@[simp] theorem setHL_fine (v : Word) : (s.setHL v).fine = s.fine := rfl
@[simp] theorem setHL_coarse (v : Word) : (s.setHL v).coarse = s.coarse := rfl
@[simp] theorem setHL_locked (v : Word) : (s.setHL v).locked = s.locked := rfl
@[simp] theorem setHL_mem (v : Word) : (s.setHL v).mem = s.mem := rfl
@[simp] theorem setHL_params (v : Word) : (s.setHL v).params = s.params := rfl
@[simp] theorem setHL_event (v : Word) : (s.setHL v).event = s.event := rfl
@[simp] theorem setHL_executed (v : Word) : (s.setHL v).executed = s.executed := rfl
@[simp] theorem setHL_busLog (v : Word) : (s.setHL v).busLog = s.busLog := rfl

@[simp] theorem setAF_a (v : Word) : (s.setAF v).a = hiByte v := rfl
@[simp] theorem setAF_f (v : Word) : (s.setAF v).f = loByte v &&& 0xF0#8 := rfl
@[simp] theorem setAF_b (v : Word) : (s.setAF v).b = s.b := rfl
@[simp] theorem setAF_c (v : Word) : (s.setAF v).c = s.c := rfl
@[simp] theorem setAF_d (v : Word) : (s.setAF v).d = s.d := rfl
@[simp] theorem setAF_e (v : Word) : (s.setAF v).e = s.e := rfl
@[simp] theorem setAF_h (v : Word) : (s.setAF v).h = s.h := rfl
@[simp] theorem setAF_l (v : Word) : (s.setAF v).l = s.l := rfl
@[simp] theorem setAF_sp (v : Word) : (s.setAF v).sp = s.sp := rfl
@[simp] theorem setAF_pc (v : Word) : (s.setAF v).pc = s.pc := rfl
@[simp] theorem setAF_fine (v : Word) : (s.setAF v).fine = s.fine := rfl
@[simp] theorem setAF_coarse (v : Word) : (s.setAF v).coarse = s.coarse := rfl
@[simp] theorem setAF_locked (v : Word) : (s.setAF v).locked = s.locked := rfl
@[simp] theorem setAF_mem (v : Word) : (s.setAF v).mem = s.mem := rfl
@[simp] theorem setAF_params (v : Word) : (s.setAF v).params = s.params := rfl
@[simp] theorem setAF_event (v : Word) : (s.setAF v).event = s.event := rfl
@[simp] theorem setAF_executed (v : Word) : (s.setAF v).executed = s.executed := rfl
@[simp] theorem setAF_busLog (v : Word) : (s.setAF v).busLog = s.busLog := rfl

@[simp] theorem setSP_a (v : Word) : (s.setSP v).a = s.a := rfl
@[simp] theorem setSP_f (v : Word) : (s.setSP v).f = s.f := rfl
@[simp] theorem setSP_b (v : Word) : (s.setSP v).b = s.b := rfl
@[simp] theorem setSP_c (v : Word) : (s.setSP v).c = s.c := rfl
@[simp] theorem setSP_d (v : Word) : (s.setSP v).d = s.d := rfl
@[simp] theorem setSP_e (v : Word) : (s.setSP v).e = s.e := rfl
@[simp] theorem setSP_h (v : Word) : (s.setSP v).h = s.h := rfl
@[simp] theorem setSP_l (v : Word) : (s.setSP v).l = s.l := rfl
@[simp] theorem setSP_sp (v : Word) : (s.setSP v).sp = v := rfl
@[simp] theorem setSP_pc (v : Word) : (s.setSP v).pc = s.pc := rfl
@[simp] theorem setSP_fine (v : Word) : (s.setSP v).fine = s.fine := rfl
@[simp] theorem setSP_coarse (v : Word) : (s.setSP v).coarse = s.coarse := rfl
@[simp] theorem setSP_locked (v : Word) : (s.setSP v).locked = s.locked := rfl
@[simp] theorem setSP_mem (v : Word) : (s.setSP v).mem = s.mem := rfl
@[simp] theorem setSP_params (v : Word) : (s.setSP v).params = s.params := rfl
@[simp] theorem setSP_event (v : Word) : (s.setSP v).event = s.event := rfl
@[simp] theorem setSP_executed (v : Word) : (s.setSP v).executed = s.executed := rfl
@[simp] theorem setSP_busLog (v : Word) : (s.setSP v).busLog = s.busLog := rfl

@[simp] theorem setPC_a (v : Word) : (s.setPC v).a = s.a := rfl
@[simp] theorem setPC_f (v : Word) : (s.setPC v).f = s.f := rfl
@[simp] theorem setPC_b (v : Word) : (s.setPC v).b = s.b := rfl
@[simp] theorem setPC_c (v : Word) : (s.setPC v).c = s.c := rfl
@[simp] theorem setPC_d (v : Word) : (s.setPC v).d = s.d := rfl
@[simp] theorem setPC_e (v : Word) : (s.setPC v).e = s.e := rfl
@[simp] theorem setPC_h (v : Word) : (s.setPC v).h = s.h := rfl
@[simp] theorem setPC_l (v : Word) : (s.setPC v).l = s.l := rfl
@[simp] theorem setPC_sp (v : Word) : (s.setPC v).sp = s.sp := rfl
@[simp] theorem setPC_pc (v : Word) : (s.setPC v).pc = v := rfl
@[simp] theorem setPC_fine (v : Word) : (s.setPC v).fine = s.fine := rfl
@[simp] theorem setPC_coarse (v : Word) : (s.setPC v).coarse = s.coarse := rfl
@[simp] theorem setPC_locked (v : Word) : (s.setPC v).locked = s.locked := rfl
@[simp] theorem setPC_mem (v : Word) : (s.setPC v).mem = s.mem := rfl
@[simp] theorem setPC_params (v : Word) : (s.setPC v).params = s.params := rfl
@[simp] theorem setPC_event (v : Word) : (s.setPC v).event = s.event := rfl
@[simp] theorem setPC_executed (v : Word) : (s.setPC v).executed = s.executed := rfl
@[simp] theorem setPC_busLog (v : Word) : (s.setPC v).busLog = s.busLog := rfl

@[simp] theorem advance_a (n : Nat) : (s.advance n).a = s.a := rfl
@[simp] theorem advance_f (n : Nat) : (s.advance n).f = s.f := rfl
@[simp] theorem advance_b (n : Nat) : (s.advance n).b = s.b := rfl
@[simp] theorem advance_c (n : Nat) : (s.advance n).c = s.c := rfl
@[simp] theorem advance_d (n : Nat) : (s.advance n).d = s.d := rfl
@[simp] theorem advance_e (n : Nat) : (s.advance n).e = s.e := rfl
@[simp] theorem advance_h (n : Nat) : (s.advance n).h = s.h := rfl
@[simp] theorem advance_l (n : Nat) : (s.advance n).l = s.l := rfl
@[simp] theorem advance_sp (n : Nat) : (s.advance n).sp = s.sp := rfl
@[simp] theorem advance_pc (n : Nat) : (s.advance n).pc = s.pc := rfl
@[simp] theorem advance_fine (n : Nat) : (s.advance n).fine = s.fine + BitVec.ofNat 64 n := rfl
@[simp] theorem advance_coarse (n : Nat) : (s.advance n).coarse = (s.fine + BitVec.ofNat 64 n) * 4#64 := rfl
@[simp] theorem advance_locked (n : Nat) : (s.advance n).locked = s.locked := rfl
@[simp] theorem advance_mem (n : Nat) : (s.advance n).mem = s.mem := rfl
@[simp] theorem advance_params (n : Nat) : (s.advance n).params = s.params := rfl
@[simp] theorem advance_event (n : Nat) : (s.advance n).event = s.event := rfl
@[simp] theorem advance_executed (n : Nat) : (s.advance n).executed = s.executed := rfl
@[simp] theorem advance_busLog (n : Nat) : (s.advance n).busLog = s.busLog := rfl

@[simp] theorem emit_a (ev : Event) : (s.emit ev).a = s.a := rfl
@[simp] theorem emit_f (ev : Event) : (s.emit ev).f = s.f := rfl
@[simp] theorem emit_b (ev : Event) : (s.emit ev).b = s.b := rfl
@[simp] theorem emit_c (ev : Event) : (s.emit ev).c = s.c := rfl
@[simp] theorem emit_d (ev : Event) : (s.emit ev).d = s.d := rfl
@[simp] theorem emit_e (ev : Event) : (s.emit ev).e = s.e := rfl
@[simp] theorem emit_h (ev : Event) : (s.emit ev).h = s.h := rfl
@[simp] theorem emit_l (ev : Event) : (s.emit ev).l = s.l := rfl
@[simp] theorem emit_sp (ev : Event) : (s.emit ev).sp = s.sp := rfl
@[simp] theorem emit_pc (ev : Event) : (s.emit ev).pc = s.pc := rfl
@[simp] theorem emit_fine (ev : Event) : (s.emit ev).fine = s.fine := rfl
@[simp] theorem emit_coarse (ev : Event) : (s.emit ev).coarse = s.coarse := rfl
@[simp] theorem emit_locked (ev : Event) : (s.emit ev).locked = s.locked := rfl
@[simp] theorem emit_mem (ev : Event) : (s.emit ev).mem = s.mem := rfl
@[simp] theorem emit_params (ev : Event) : (s.emit ev).params = s.params := rfl
@[simp] theorem emit_event (ev : Event) : (s.emit ev).event = ev := rfl
@[simp] theorem emit_executed (ev : Event) : (s.emit ev).executed = s.executed := rfl
@[simp] theorem emit_busLog (ev : Event) : (s.emit ev).busLog = s.busLog := rfl

@[simp] theorem record_a (i : Instr) : (s.record i).a = s.a := rfl
@[simp] theorem record_f (i : Instr) : (s.record i).f = s.f := rfl
@[simp] theorem record_b (i : Instr) : (s.record i).b = s.b := rfl
@[simp] theorem record_c (i : Instr) : (s.record i).c = s.c := rfl
@[simp] theorem record_d (i : Instr) : (s.record i).d = s.d := rfl
@[simp] theorem record_e (i : Instr) : (s.record i).e = s.e := rfl
@[simp] theorem record_h (i : Instr) : (s.record i).h = s.h := rfl
@[simp] theorem record_l (i : Instr) : (s.record i).l = s.l := rfl
@[simp] theorem record_sp (i : Instr) : (s.record i).sp = s.sp := rfl
@[simp] theorem record_pc (i : Instr) : (s.record i).pc = s.pc := rfl
@[simp] theorem record_fine (i : Instr) : (s.record i).fine = s.fine := rfl
@[simp] theorem record_coarse (i : Instr) : (s.record i).coarse = s.coarse := rfl
@[simp] theorem record_locked (i : Instr) : (s.record i).locked = s.locked := rfl
@[simp] theorem record_mem (i : Instr) : (s.record i).mem = s.mem := rfl
@[simp] theorem record_params (i : Instr) : (s.record i).params = s.params := rfl
@[simp] theorem record_event (i : Instr) : (s.record i).event = s.event := rfl
@[simp] theorem record_executed (i : Instr) : (s.record i).executed = some (slotOf i) := rfl
@[simp] theorem record_busLog (i : Instr) : (s.record i).busLog = s.busLog := rfl

@[simp] theorem setReg_f (r : Reg8) (v : Byte) : (s.setReg r v).f = s.f := by cases r <;> rfl
@[simp] theorem setReg_sp (r : Reg8) (v : Byte) : (s.setReg r v).sp = s.sp := by cases r <;> rfl
@[simp] theorem setReg_pc (r : Reg8) (v : Byte) : (s.setReg r v).pc = s.pc := by cases r <;> rfl
@[simp] theorem setReg_fine (r : Reg8) (v : Byte) : (s.setReg r v).fine = s.fine := by cases r <;> rfl
@[simp] theorem setReg_coarse (r : Reg8) (v : Byte) : (s.setReg r v).coarse = s.coarse := by cases r <;> rfl
@[simp] theorem setReg_locked (r : Reg8) (v : Byte) : (s.setReg r v).locked = s.locked := by cases r <;> rfl
@[simp] theorem setReg_mem (r : Reg8) (v : Byte) : (s.setReg r v).mem = s.mem := by cases r <;> rfl
@[simp] theorem setReg_params (r : Reg8) (v : Byte) : (s.setReg r v).params = s.params := by cases r <;> rfl
@[simp] theorem setReg_event (r : Reg8) (v : Byte) : (s.setReg r v).event = s.event := by cases r <;> rfl
@[simp] theorem setReg_executed (r : Reg8) (v : Byte) : (s.setReg r v).executed = s.executed := by cases r <;> rfl
@[simp] theorem setReg_busLog (r : Reg8) (v : Byte) : (s.setReg r v).busLog = s.busLog := by cases r <;> rfl

@[simp] theorem setReg16_a (p : Reg16) (v : Word) : (s.setReg16 p v).a = s.a := by cases p <;> rfl
@[simp] theorem setReg16_f (p : Reg16) (v : Word) : (s.setReg16 p v).f = s.f := by cases p <;> rfl
@[simp] theorem setReg16_pc (p : Reg16) (v : Word) : (s.setReg16 p v).pc = s.pc := by cases p <;> rfl
@[simp] theorem setReg16_fine (p : Reg16) (v : Word) : (s.setReg16 p v).fine = s.fine := by cases p <;> rfl
@[simp] theorem setReg16_coarse (p : Reg16) (v : Word) : (s.setReg16 p v).coarse = s.coarse := by cases p <;> rfl
@[simp] theorem setReg16_locked (p : Reg16) (v : Word) : (s.setReg16 p v).locked = s.locked := by cases p <;> rfl
@[simp] theorem setReg16_mem (p : Reg16) (v : Word) : (s.setReg16 p v).mem = s.mem := by cases p <;> rfl
@[simp] theorem setReg16_params (p : Reg16) (v : Word) : (s.setReg16 p v).params = s.params := by cases p <;> rfl
@[simp] theorem setReg16_event (p : Reg16) (v : Word) : (s.setReg16 p v).event = s.event := by cases p <;> rfl
@[simp] theorem setReg16_executed (p : Reg16) (v : Word) : (s.setReg16 p v).executed = s.executed := by cases p <;> rfl
@[simp] theorem setReg16_busLog (p : Reg16) (v : Word) : (s.setReg16 p v).busLog = s.busLog := by cases p <;> rfl

@[simp] theorem setStackPair_sp (p : StackPair) (v : Word) : (s.setStackPair p v).sp = s.sp := by cases p <;> rfl
@[simp] theorem setStackPair_pc (p : StackPair) (v : Word) : (s.setStackPair p v).pc = s.pc := by cases p <;> rfl
@[simp] theorem setStackPair_fine (p : StackPair) (v : Word) : (s.setStackPair p v).fine = s.fine := by cases p <;> rfl
@[simp] theorem setStackPair_coarse (p : StackPair) (v : Word) : (s.setStackPair p v).coarse = s.coarse := by cases p <;> rfl
@[simp] theorem setStackPair_locked (p : StackPair) (v : Word) : (s.setStackPair p v).locked = s.locked := by cases p <;> rfl
@[simp] theorem setStackPair_mem (p : StackPair) (v : Word) : (s.setStackPair p v).mem = s.mem := by cases p <;> rfl
@[simp] theorem setStackPair_params (p : StackPair) (v : Word) : (s.setStackPair p v).params = s.params := by cases p <;> rfl
@[simp] theorem setStackPair_event (p : StackPair) (v : Word) : (s.setStackPair p v).event = s.event := by cases p <;> rfl
@[simp] theorem setStackPair_executed (p : StackPair) (v : Word) : (s.setStackPair p v).executed = s.executed := by cases p <;> rfl
@[simp] theorem setStackPair_busLog (p : StackPair) (v : Word) : (s.setStackPair p v).busLog = s.busLog := by cases p <;> rfl

@[simp] theorem movePointer_a (p : Pointer) : (s.movePointer p).a = s.a := by cases p <;> rfl
@[simp] theorem movePointer_f (p : Pointer) : (s.movePointer p).f = s.f := by cases p <;> rfl
@[simp] theorem movePointer_b (p : Pointer) : (s.movePointer p).b = s.b := by cases p <;> rfl
@[simp] theorem movePointer_c (p : Pointer) : (s.movePointer p).c = s.c := by cases p <;> rfl
@[simp] theorem movePointer_d (p : Pointer) : (s.movePointer p).d = s.d := by cases p <;> rfl
@[simp] theorem movePointer_e (p : Pointer) : (s.movePointer p).e = s.e := by cases p <;> rfl
@[simp] theorem movePointer_sp (p : Pointer) : (s.movePointer p).sp = s.sp := by cases p <;> rfl
@[simp] theorem movePointer_pc (p : Pointer) : (s.movePointer p).pc = s.pc := by cases p <;> rfl
@[simp] theorem movePointer_fine (p : Pointer) : (s.movePointer p).fine = s.fine := by cases p <;> rfl
@[simp] theorem movePointer_coarse (p : Pointer) : (s.movePointer p).coarse = s.coarse := by cases p <;> rfl
@[simp] theorem movePointer_locked (p : Pointer) : (s.movePointer p).locked = s.locked := by cases p <;> rfl
@[simp] theorem movePointer_mem (p : Pointer) : (s.movePointer p).mem = s.mem := by cases p <;> rfl
@[simp] theorem movePointer_params (p : Pointer) : (s.movePointer p).params = s.params := by cases p <;> rfl
@[simp] theorem movePointer_event (p : Pointer) : (s.movePointer p).event = s.event := by cases p <;> rfl
@[simp] theorem movePointer_executed (p : Pointer) : (s.movePointer p).executed = s.executed := by cases p <;> rfl
@[simp] theorem movePointer_busLog (p : Pointer) : (s.movePointer p).busLog = s.busLog := by cases p <;> rfl

@[simp] theorem store_a (x : Word) (v : Byte) : (s.store x v).a = s.a := by unfold State.store; split <;> rfl
@[simp] theorem store_f (x : Word) (v : Byte) : (s.store x v).f = s.f := by unfold State.store; split <;> rfl
@[simp] theorem store_b (x : Word) (v : Byte) : (s.store x v).b = s.b := by unfold State.store; split <;> rfl
@[simp] theorem store_c (x : Word) (v : Byte) : (s.store x v).c = s.c := by unfold State.store; split <;> rfl
@[simp] theorem store_d (x : Word) (v : Byte) : (s.store x v).d = s.d := by unfold State.store; split <;> rfl
@[simp] theorem store_e (x : Word) (v : Byte) : (s.store x v).e = s.e := by unfold State.store; split <;> rfl
@[simp] theorem store_h (x : Word) (v : Byte) : (s.store x v).h = s.h := by unfold State.store; split <;> rfl
@[simp] theorem store_l (x : Word) (v : Byte) : (s.store x v).l = s.l := by unfold State.store; split <;> rfl
@[simp] theorem store_sp (x : Word) (v : Byte) : (s.store x v).sp = s.sp := by unfold State.store; split <;> rfl
@[simp] theorem store_pc (x : Word) (v : Byte) : (s.store x v).pc = s.pc := by unfold State.store; split <;> rfl
@[simp] theorem store_fine (x : Word) (v : Byte) : (s.store x v).fine = s.fine := by unfold State.store; split <;> rfl
@[simp] theorem store_coarse (x : Word) (v : Byte) : (s.store x v).coarse = s.coarse := by unfold State.store; split <;> rfl
@[simp] theorem store_locked (x : Word) (v : Byte) : (s.store x v).locked = s.locked := by unfold State.store; split <;> rfl
@[simp] theorem store_params (x : Word) (v : Byte) : (s.store x v).params = s.params := by unfold State.store; split <;> rfl
@[simp] theorem store_event (x : Word) (v : Byte) : (s.store x v).event = s.event := by unfold State.store; split <;> rfl
@[simp] theorem store_executed (x : Word) (v : Byte) : (s.store x v).executed = s.executed := by unfold State.store; split <;> rfl

@[simp] theorem load_a (x : Word) : (s.load x).2.a = s.a := by unfold State.load; split <;> rfl
@[simp] theorem load_f (x : Word) : (s.load x).2.f = s.f := by unfold State.load; split <;> rfl
@[simp] theorem load_b (x : Word) : (s.load x).2.b = s.b := by unfold State.load; split <;> rfl
@[simp] theorem load_c (x : Word) : (s.load x).2.c = s.c := by unfold State.load; split <;> rfl
@[simp] theorem load_d (x : Word) : (s.load x).2.d = s.d := by unfold State.load; split <;> rfl
@[simp] theorem load_e (x : Word) : (s.load x).2.e = s.e := by unfold State.load; split <;> rfl
@[simp] theorem load_h (x : Word) : (s.load x).2.h = s.h := by unfold State.load; split <;> rfl
@[simp] theorem load_l (x : Word) : (s.load x).2.l = s.l := by unfold State.load; split <;> rfl
@[simp] theorem load_sp (x : Word) : (s.load x).2.sp = s.sp := by unfold State.load; split <;> rfl
@[simp] theorem load_pc (x : Word) : (s.load x).2.pc = s.pc := by unfold State.load; split <;> rfl
@[simp] theorem load_fine (x : Word) : (s.load x).2.fine = s.fine := by unfold State.load; split <;> rfl
@[simp] theorem load_coarse (x : Word) : (s.load x).2.coarse = s.coarse := by unfold State.load; split <;> rfl
@[simp] theorem load_locked (x : Word) : (s.load x).2.locked = s.locked := by unfold State.load; split <;> rfl
@[simp] theorem load_mem (x : Word) : (s.load x).2.mem = s.mem := by unfold State.load; split <;> rfl
@[simp] theorem load_params (x : Word) : (s.load x).2.params = s.params := by unfold State.load; split <;> rfl
@[simp] theorem load_event (x : Word) : (s.load x).2.event = s.event := by unfold State.load; split <;> rfl
@[simp] theorem load_executed (x : Word) : (s.load x).2.executed = s.executed := by unfold State.load; split <;> rfl

/-! ### Reading a register after writing one -/

@[simp] theorem setReg_reg_same (r : Reg8) (v : Byte) : (s.setReg r v).reg r = v := by cases r <;> rfl

@[simp] theorem setReg_reg_other (r q : Reg8) (v : Byte) (h : q ≠ r) : (s.setReg r v).reg q = s.reg q := by
  cases r <;> cases q <;> first | rfl | exact absurd rfl h

theorem load_reg (x : Word) (r : Reg8) : (s.load x).2.reg r = s.reg r := by cases r <;> simp [State.reg]

theorem load_hl (x : Word) : (s.load x).2.hl = s.hl := by simp [State.hl]

theorem load_flag (x : Word) (k : FlagId) : (s.load x).2.flag k = s.flag k := by simp [State.flag]

theorem store_reg (x : Word) (v : Byte) (r : Reg8) : (s.store x v).reg r = s.reg r := by
  cases r <;> simp [State.reg]

theorem store_hl (x : Word) (v : Byte) : (s.store x v).hl = s.hl := by simp [State.hl]

/-! ### The pairs -/

theorem joinBytes_toNat (x y : Byte) : (joinBytes x y).toNat = x.toNat * 256 + y.toNat := by
  have hy := y.isLt
  show (x ++ y : BitVec (8 + 8)).toNat = _
  rw [BitVec.toNat_append, ← Nat.shiftLeft_add_eq_or_of_lt hy, Nat.shiftLeft_eq]

theorem hiByte_toNat (v : Word) : (hiByte v).toNat = v.toNat / 256 := by
  have := v.isLt
  simp only [hiByte, BitVec.extractLsb'_toNat, Nat.shiftRight_eq_div_pow]
  omega

theorem loByte_toNat (v : Word) : (loByte v).toNat = v.toNat % 256 := by
  simp [loByte, BitVec.extractLsb'_toNat]

@[simp] theorem joinBytes_hi_lo (v : Word) : joinBytes (hiByte v) (loByte v) = v := by
  apply BitVec.eq_of_toNat_eq
  rw [joinBytes_toNat, hiByte_toNat, loByte_toNat]
  omega

@[simp] theorem hiByte_joinBytes (x y : Byte) : hiByte (joinBytes x y) = x := by
  apply BitVec.eq_of_toNat_eq
  rw [hiByte_toNat, joinBytes_toNat]
  have := y.isLt
  omega

@[simp] theorem loByte_joinBytes (x y : Byte) : loByte (joinBytes x y) = y := by
  apply BitVec.eq_of_toNat_eq
  rw [loByte_toNat, joinBytes_toNat]
  have := y.isLt
  omega

@[simp] theorem setBC_bc (v : Word) : (s.setBC v).bc = v := by simp [State.bc]

@[simp] theorem setDE_de (v : Word) : (s.setDE v).de = v := by simp [State.de]

@[simp] theorem setHL_hl (v : Word) : (s.setHL v).hl = v := by simp [State.hl]

@[simp] theorem setReg16_reg16 (p : Reg16) (v : Word) : (s.setReg16 p v).reg16 p = v := by
  cases p <;> simp [State.setReg16, State.reg16]

end Sys2Proof.Machine
end

