-- ==== Sys2Proof/Laws/Flags.lean ====
section
/-! SUPPORT. What the flag writes do to F, as one equation each. -/

namespace Sys2Proof.Machine

/-- Writing all four flags replaces F. -/
theorem writeFlags_eq (s : State) (fl : FlagSet) : s.writeFlags fl = { s with f := fl.toByte } := by
  obtain ⟨z, n, h, c⟩ := fl
  cases z <;> cases n <;> cases h <;> cases c <;> rfl

/-- Bits 7, 6 and 5 written one by one: bit 4 and bits 3 to 0 stay. -/
theorem putBit_znh (f : Byte) (z n h : Bool) :
    putBit (putBit (putBit f 7 z) 6 n) 5 h = FlagSet.toByte ⟨z, n, h, f.getLsbD 4⟩ ||| (f &&& 0x0F#8) := by
  revert f z n h
  decide

/-- Bits 6, 5 and 4 written one by one: bit 7 and bits 3 to 0 stay. -/
theorem putBit_nhc (f : Byte) (n h c : Bool) :
    putBit (putBit (putBit f 6 n) 5 h) 4 c = FlagSet.toByte ⟨f.getLsbD 7, n, h, c⟩ ||| (f &&& 0x0F#8) := by
  revert f n h c
  decide

/-- Bits 7, 5 and 4 written one by one: bit 6 and bits 3 to 0 stay. -/
theorem putBit_zhc (f : Byte) (z h c : Bool) :
    putBit (putBit (putBit f 7 z) 5 h) 4 c = FlagSet.toByte ⟨z, f.getLsbD 6, h, c⟩ ||| (f &&& 0x0F#8) := by
  revert f z h c
  decide

/-- Bits 6 and 5 written one by one: bits 7, 4 and 3 to 0 stay. -/
theorem putBit_nh (f : Byte) (n h : Bool) :
    putBit (putBit f 6 n) 5 h = FlagSet.toByte ⟨f.getLsbD 7, n, h, f.getLsbD 4⟩ ||| (f &&& 0x0F#8) := by
  revert f n h
  decide

/-- Z, N and H written, C kept. -/
theorem writeZNH_eq (s : State) (fl : FlagSet) :
    s.writeZNH fl = { s with f := FlagSet.toByte ⟨fl.z, fl.n, fl.h, s.flag .carry⟩ ||| (s.f &&& 0x0F#8) } :=
  congrArg (fun x => { s with f := x }) (putBit_znh s.f fl.z fl.n fl.h)

/-- N, H and C written, Z kept. -/
theorem writeNHC_eq (s : State) (fl : FlagSet) :
    s.writeNHC fl = { s with f := FlagSet.toByte ⟨s.flag .zero, fl.n, fl.h, fl.c⟩ ||| (s.f &&& 0x0F#8) } :=
  congrArg (fun x => { s with f := x }) (putBit_nhc s.f fl.n fl.h fl.c)

/-- The flags of a written F are the flags written. -/
@[simp] theorem toByte_bits (fl : FlagSet) :
    fl.toByte.getLsbD 7 = fl.z ∧ fl.toByte.getLsbD 6 = fl.n ∧ fl.toByte.getLsbD 5 = fl.h ∧
      fl.toByte.getLsbD 4 = fl.c := by
  obtain ⟨z, n, h, c⟩ := fl
  cases z <;> cases n <;> cases h <;> cases c <;> decide

/-- A written F has bits 3 to 0 zero (R31). -/
@[simp] theorem toByte_low (fl : FlagSet) : fl.toByte &&& 0x0F#8 = 0#8 := by
  obtain ⟨z, n, h, c⟩ := fl
  cases z <;> cases n <;> cases h <;> cases c <;> rfl

/-- Bits 3 to 0 of F are kept by a write that keeps them. -/
theorem keep_low (fl : FlagSet) (f : Byte) : (fl.toByte ||| (f &&& 0x0F#8)) &&& 0x0F#8 = f &&& 0x0F#8 := by
  rw [BitVec.and_or_distrib_right, toByte_low, BitVec.zero_or, BitVec.and_assoc, BitVec.and_self]

/-- Writing one flag bit keeps bits 3 to 0. -/
theorem putFlag_low (s : State) (k : FlagId) (v : Bool) : (s.putFlag k v).f &&& 0x0F#8 = s.f &&& 0x0F#8 := by
  have h : ∀ f : Byte, putBit f k.position v &&& 0x0F#8 = f &&& 0x0F#8 := by
    cases k <;> cases v <;> decide
  exact h s.f

end Sys2Proof.Machine
end

