-- ==== Sys2Proof/Laws/Arith.lean ====
section
/-! SUPPORT. What the ALU functions compute, over the naturals. -/

namespace Sys2Proof.Machine

theorem getLsbD_four (x : Byte) : x.getLsbD 4 = decide (x.toNat / 16 % 2 = 1) := by
  revert x
  decide

theorem low_nibble (a : Byte) : (a &&& 0x0F#8).toNat = a.toNat % 16 := by
  revert a
  decide

/-- Bit 4 of the two operands and their sum says whether the low nibbles' sum exceeds 15 (R90). -/
theorem half_carry_add (a b : Byte) (cin : Bool) :
    (a ^^^ b ^^^ BitVec.ofNat 8 (a.toNat + b.toNat + cin.toNat)).getLsbD 4 =
      decide (a.toNat % 16 + b.toNat % 16 + cin.toNat > 15) := by
  rw [BitVec.getLsbD_xor, BitVec.getLsbD_xor, getLsbD_four, getLsbD_four, getLsbD_four]
  simp only [BitVec.toNat_ofNat]
  have ha := a.isLt
  have hb := b.isLt
  generalize a.toNat = x at *
  generalize b.toNat = y at *
  cases cin <;> simp only [Bool.toNat_false, Bool.toNat_true] <;>
    by_cases h1 : x / 16 % 2 = 1 <;> by_cases h2 : y / 16 % 2 = 1 <;>
      (rw [Bool.eq_iff_iff]; simp [h1, h2]; omega)

/-- `add8` is the exact sum and its overflows (R90). -/
theorem add8_eq (a b : Byte) (cin : Bool) :
    add8 a b cin = (BitVec.ofNat 8 (a.toNat + b.toNat + cin.toNat),
      ⟨decide ((a.toNat + b.toNat + cin.toNat) % 256 = 0), false,
        decide (a.toNat % 16 + b.toNat % 16 + cin.toNat > 15), decide (a.toNat + b.toNat + cin.toNat > 255)⟩) := by
  have hr : a + b + (BitVec.ofBool cin).setWidth 8 = BitVec.ofNat 8 (a.toNat + b.toNat + cin.toNat) := by
    apply BitVec.eq_of_toNat_eq
    cases cin <;> simp [BitVec.toNat_add]
  have hc : (if cin then decide (0xFF#8 - b ≤ a) else decide (0xFF#8 - b < a)) =
      decide (a.toNat + b.toNat + cin.toNat > 255) := by
    have ha := a.isLt
    have hb := b.isLt
    cases cin <;> simp [BitVec.le_def, BitVec.lt_def, BitVec.toNat_sub] <;> omega
  simp only [add8, hr, hc, half_carry_add]
  congr 2
  rw [Bool.eq_iff_iff]
  simp [← BitVec.toNat_inj]

/-- `sub8` is the exact difference and its borrows (R91, D10). -/
theorem sub8_eq (a b : Byte) (bin : Bool) :
    sub8 a b bin = (BitVec.ofNat 8 (a.toNat + 512 - b.toNat - bin.toNat),
      ⟨decide ((a.toNat + 512 - b.toNat - bin.toNat) % 256 = 0), true,
        decide (a.toNat % 16 < b.toNat % 16 + bin.toNat), decide (a.toNat < b.toNat + bin.toNat)⟩) := by
  have ha := a.isLt
  have hb := b.isLt
  have hr : a - b - (BitVec.ofBool bin).setWidth 8 = BitVec.ofNat 8 (a.toNat + 512 - b.toNat - bin.toNat) := by
    apply BitVec.eq_of_toNat_eq
    cases bin <;> simp [BitVec.toNat_sub] <;> omega
  simp only [sub8, hr, low_nibble]
  congr 2
  rw [Bool.eq_iff_iff]
  simp [← BitVec.toNat_inj]

/-- `inc8` (R93). -/
theorem inc8_eq (v : Byte) :
    inc8 v = (BitVec.ofNat 8 (v.toNat + 1), ⟨decide (v.toNat = 255), false, decide (v.toNat % 16 = 15), false⟩) := by
  revert v
  decide

/-- `dec8` (R94, D10). -/
theorem dec8_eq (v : Byte) :
    dec8 v = (BitVec.ofNat 8 (v.toNat + 255), ⟨decide (v.toNat = 1), true, decide (v.toNat % 16 = 0), false⟩) := by
  revert v
  decide

/-- A displacement added to an address is the signed sum mod 2^16 (R9, R81). -/
theorem add_sext16 (x : Word) (e : Byte) : x + sext16 e = BitVec.ofInt 16 (x.toNat + e.toInt) := by
  apply BitVec.eq_of_toInt_eq
  unfold sext16
  rw [BitVec.toInt_add, BitVec.toInt_signExtend_of_le (by decide), BitVec.toInt_ofInt, BitVec.toInt_eq_toNat_bmod x]
  simp

theorem succ_eq_ofNat (x : Word) : x + 1#16 = BitVec.ofNat 16 (x.toNat + 1) := by
  apply BitVec.eq_of_toNat_eq
  simp [BitVec.toNat_add]

theorem pred_eq_ofNat (x : Word) : x - 1#16 = BitVec.ofNat 16 (x.toNat + 65535) := by
  apply BitVec.eq_of_toNat_eq
  simp [BitVec.toNat_sub]
  omega

end Sys2Proof.Machine
end

