-- ==== Sys2Proof/Laws/Exec.lean ====
section
/-! SUPPORT. What `exec` does with each form, in terms of the shared operations, and the case split over the forms. -/

namespace Sys2Proof.Machine

/-- Every instruction is the instruction of its form. -/
theorem form_instr (i : Instr) : i.form.instr = i := by
  cases i with
  | nop => exact Laws.FormRoundTrip.nop
  | ld_BC_d16 nn => exact Laws.FormRoundTrip.ld_BC_d16 nn
  | ld_atBC_A => exact Laws.FormRoundTrip.ld_atBC_A
  | inc_BC => exact Laws.FormRoundTrip.inc_BC
  | inc_B => exact Laws.FormRoundTrip.inc_B
  | dec_B => exact Laws.FormRoundTrip.dec_B
  | ld_B_d8 n => exact Laws.FormRoundTrip.ld_B_d8 n
  | rlca => exact Laws.FormRoundTrip.rlca
  | ld_atA16_SP nn => exact Laws.FormRoundTrip.ld_atA16_SP nn
  | add_HL_BC => exact Laws.FormRoundTrip.add_HL_BC
  | ld_A_atBC => exact Laws.FormRoundTrip.ld_A_atBC
  | dec_BC => exact Laws.FormRoundTrip.dec_BC
  | inc_C => exact Laws.FormRoundTrip.inc_C
  | dec_C => exact Laws.FormRoundTrip.dec_C
  | ld_C_d8 n => exact Laws.FormRoundTrip.ld_C_d8 n
  | rrca => exact Laws.FormRoundTrip.rrca
  | stop => exact Laws.FormRoundTrip.stop
  | ld_DE_d16 nn => exact Laws.FormRoundTrip.ld_DE_d16 nn
  | ld_atDE_A => exact Laws.FormRoundTrip.ld_atDE_A
  | inc_DE => exact Laws.FormRoundTrip.inc_DE
  | inc_D => exact Laws.FormRoundTrip.inc_D
  | dec_D => exact Laws.FormRoundTrip.dec_D
  | ld_D_d8 n => exact Laws.FormRoundTrip.ld_D_d8 n
  | rla => exact Laws.FormRoundTrip.rla
  | jr_e8 n => exact Laws.FormRoundTrip.jr_e8 n
  | add_HL_DE => exact Laws.FormRoundTrip.add_HL_DE
  | ld_A_atDE => exact Laws.FormRoundTrip.ld_A_atDE
  | dec_DE => exact Laws.FormRoundTrip.dec_DE
  | inc_E => exact Laws.FormRoundTrip.inc_E
  | dec_E => exact Laws.FormRoundTrip.dec_E
  | ld_E_d8 n => exact Laws.FormRoundTrip.ld_E_d8 n
  | rra => exact Laws.FormRoundTrip.rra
  | jr_NZ_e8 n => exact Laws.FormRoundTrip.jr_NZ_e8 n
  | ld_HL_d16 nn => exact Laws.FormRoundTrip.ld_HL_d16 nn
  | ld_atHLi_A => exact Laws.FormRoundTrip.ld_atHLi_A
  | inc_HL => exact Laws.FormRoundTrip.inc_HL
  | inc_H => exact Laws.FormRoundTrip.inc_H
  | dec_H => exact Laws.FormRoundTrip.dec_H
  | ld_H_d8 n => exact Laws.FormRoundTrip.ld_H_d8 n
  | daa => exact Laws.FormRoundTrip.daa
  | jr_Z_e8 n => exact Laws.FormRoundTrip.jr_Z_e8 n
  | add_HL_HL => exact Laws.FormRoundTrip.add_HL_HL
  | ld_A_atHLi => exact Laws.FormRoundTrip.ld_A_atHLi
  | dec_HL => exact Laws.FormRoundTrip.dec_HL
  | inc_L => exact Laws.FormRoundTrip.inc_L
  | dec_L => exact Laws.FormRoundTrip.dec_L
  | ld_L_d8 n => exact Laws.FormRoundTrip.ld_L_d8 n
  | cpl => exact Laws.FormRoundTrip.cpl
  | jr_NC_e8 n => exact Laws.FormRoundTrip.jr_NC_e8 n
  | ld_SP_d16 nn => exact Laws.FormRoundTrip.ld_SP_d16 nn
  | ld_atHLd_A => exact Laws.FormRoundTrip.ld_atHLd_A
  | inc_SP => exact Laws.FormRoundTrip.inc_SP
  | inc_atHL => exact Laws.FormRoundTrip.inc_atHL
  | dec_atHL => exact Laws.FormRoundTrip.dec_atHL
  | ld_atHL_d8 n => exact Laws.FormRoundTrip.ld_atHL_d8 n
  | scf => exact Laws.FormRoundTrip.scf
  | jr_C_e8 n => exact Laws.FormRoundTrip.jr_C_e8 n
  | add_HL_SP => exact Laws.FormRoundTrip.add_HL_SP
  | ld_A_atHLd => exact Laws.FormRoundTrip.ld_A_atHLd
  | dec_SP => exact Laws.FormRoundTrip.dec_SP
  | inc_A => exact Laws.FormRoundTrip.inc_A
  | dec_A => exact Laws.FormRoundTrip.dec_A
  | ld_A_d8 n => exact Laws.FormRoundTrip.ld_A_d8 n
  | ccf => exact Laws.FormRoundTrip.ccf
  | ld_B_B => exact Laws.FormRoundTrip.ld_B_B
  | ld_B_C => exact Laws.FormRoundTrip.ld_B_C
  | ld_B_D => exact Laws.FormRoundTrip.ld_B_D
  | ld_B_E => exact Laws.FormRoundTrip.ld_B_E
  | ld_B_H => exact Laws.FormRoundTrip.ld_B_H
  | ld_B_L => exact Laws.FormRoundTrip.ld_B_L
  | ld_B_atHL => exact Laws.FormRoundTrip.ld_B_atHL
  | ld_B_A => exact Laws.FormRoundTrip.ld_B_A
  | ld_C_B => exact Laws.FormRoundTrip.ld_C_B
  | ld_C_C => exact Laws.FormRoundTrip.ld_C_C
  | ld_C_D => exact Laws.FormRoundTrip.ld_C_D
  | ld_C_E => exact Laws.FormRoundTrip.ld_C_E
  | ld_C_H => exact Laws.FormRoundTrip.ld_C_H
  | ld_C_L => exact Laws.FormRoundTrip.ld_C_L
  | ld_C_atHL => exact Laws.FormRoundTrip.ld_C_atHL
  | ld_C_A => exact Laws.FormRoundTrip.ld_C_A
  | ld_D_B => exact Laws.FormRoundTrip.ld_D_B
  | ld_D_C => exact Laws.FormRoundTrip.ld_D_C
  | ld_D_D => exact Laws.FormRoundTrip.ld_D_D
  | ld_D_E => exact Laws.FormRoundTrip.ld_D_E
  | ld_D_H => exact Laws.FormRoundTrip.ld_D_H
  | ld_D_L => exact Laws.FormRoundTrip.ld_D_L
  | ld_D_atHL => exact Laws.FormRoundTrip.ld_D_atHL
  | ld_D_A => exact Laws.FormRoundTrip.ld_D_A
  | ld_E_B => exact Laws.FormRoundTrip.ld_E_B
  | ld_E_C => exact Laws.FormRoundTrip.ld_E_C
  | ld_E_D => exact Laws.FormRoundTrip.ld_E_D
  | ld_E_E => exact Laws.FormRoundTrip.ld_E_E
  | ld_E_H => exact Laws.FormRoundTrip.ld_E_H
  | ld_E_L => exact Laws.FormRoundTrip.ld_E_L
  | ld_E_atHL => exact Laws.FormRoundTrip.ld_E_atHL
  | ld_E_A => exact Laws.FormRoundTrip.ld_E_A
  | ld_H_B => exact Laws.FormRoundTrip.ld_H_B
  | ld_H_C => exact Laws.FormRoundTrip.ld_H_C
  | ld_H_D => exact Laws.FormRoundTrip.ld_H_D
  | ld_H_E => exact Laws.FormRoundTrip.ld_H_E
  | ld_H_H => exact Laws.FormRoundTrip.ld_H_H
  | ld_H_L => exact Laws.FormRoundTrip.ld_H_L
  | ld_H_atHL => exact Laws.FormRoundTrip.ld_H_atHL
  | ld_H_A => exact Laws.FormRoundTrip.ld_H_A
  | ld_L_B => exact Laws.FormRoundTrip.ld_L_B
  | ld_L_C => exact Laws.FormRoundTrip.ld_L_C
  | ld_L_D => exact Laws.FormRoundTrip.ld_L_D
  | ld_L_E => exact Laws.FormRoundTrip.ld_L_E
  | ld_L_H => exact Laws.FormRoundTrip.ld_L_H
  | ld_L_L => exact Laws.FormRoundTrip.ld_L_L
  | ld_L_atHL => exact Laws.FormRoundTrip.ld_L_atHL
  | ld_L_A => exact Laws.FormRoundTrip.ld_L_A
  | ld_atHL_B => exact Laws.FormRoundTrip.ld_atHL_B
  | ld_atHL_C => exact Laws.FormRoundTrip.ld_atHL_C
  | ld_atHL_D => exact Laws.FormRoundTrip.ld_atHL_D
  | ld_atHL_E => exact Laws.FormRoundTrip.ld_atHL_E
  | ld_atHL_H => exact Laws.FormRoundTrip.ld_atHL_H
  | ld_atHL_L => exact Laws.FormRoundTrip.ld_atHL_L
  | halt => exact Laws.FormRoundTrip.halt
  | ld_atHL_A => exact Laws.FormRoundTrip.ld_atHL_A
  | ld_A_B => exact Laws.FormRoundTrip.ld_A_B
  | ld_A_C => exact Laws.FormRoundTrip.ld_A_C
  | ld_A_D => exact Laws.FormRoundTrip.ld_A_D
  | ld_A_E => exact Laws.FormRoundTrip.ld_A_E
  | ld_A_H => exact Laws.FormRoundTrip.ld_A_H
  | ld_A_L => exact Laws.FormRoundTrip.ld_A_L
  | ld_A_atHL => exact Laws.FormRoundTrip.ld_A_atHL
  | ld_A_A => exact Laws.FormRoundTrip.ld_A_A
  | add_A_B => exact Laws.FormRoundTrip.add_A_B
  | add_A_C => exact Laws.FormRoundTrip.add_A_C
  | add_A_D => exact Laws.FormRoundTrip.add_A_D
  | add_A_E => exact Laws.FormRoundTrip.add_A_E
  | add_A_H => exact Laws.FormRoundTrip.add_A_H
  | add_A_L => exact Laws.FormRoundTrip.add_A_L
  | add_A_atHL => exact Laws.FormRoundTrip.add_A_atHL
  | add_A_A => exact Laws.FormRoundTrip.add_A_A
  | adc_A_B => exact Laws.FormRoundTrip.adc_A_B
  | adc_A_C => exact Laws.FormRoundTrip.adc_A_C
  | adc_A_D => exact Laws.FormRoundTrip.adc_A_D
  | adc_A_E => exact Laws.FormRoundTrip.adc_A_E
  | adc_A_H => exact Laws.FormRoundTrip.adc_A_H
  | adc_A_L => exact Laws.FormRoundTrip.adc_A_L
  | adc_A_atHL => exact Laws.FormRoundTrip.adc_A_atHL
  | adc_A_A => exact Laws.FormRoundTrip.adc_A_A
  | sub_B => exact Laws.FormRoundTrip.sub_B
  | sub_C => exact Laws.FormRoundTrip.sub_C
  | sub_D => exact Laws.FormRoundTrip.sub_D
  | sub_E => exact Laws.FormRoundTrip.sub_E
  | sub_H => exact Laws.FormRoundTrip.sub_H
  | sub_L => exact Laws.FormRoundTrip.sub_L
  | sub_atHL => exact Laws.FormRoundTrip.sub_atHL
  | sub_A => exact Laws.FormRoundTrip.sub_A
  | sbc_A_B => exact Laws.FormRoundTrip.sbc_A_B
  | sbc_A_C => exact Laws.FormRoundTrip.sbc_A_C
  | sbc_A_D => exact Laws.FormRoundTrip.sbc_A_D
  | sbc_A_E => exact Laws.FormRoundTrip.sbc_A_E
  | sbc_A_H => exact Laws.FormRoundTrip.sbc_A_H
  | sbc_A_L => exact Laws.FormRoundTrip.sbc_A_L
  | sbc_A_atHL => exact Laws.FormRoundTrip.sbc_A_atHL
  | sbc_A_A => exact Laws.FormRoundTrip.sbc_A_A
  | and_B => exact Laws.FormRoundTrip.and_B
  | and_C => exact Laws.FormRoundTrip.and_C
  | and_D => exact Laws.FormRoundTrip.and_D
  | and_E => exact Laws.FormRoundTrip.and_E
  | and_H => exact Laws.FormRoundTrip.and_H
  | and_L => exact Laws.FormRoundTrip.and_L
  | and_atHL => exact Laws.FormRoundTrip.and_atHL
  | and_A => exact Laws.FormRoundTrip.and_A
  | xor_B => exact Laws.FormRoundTrip.xor_B
  | xor_C => exact Laws.FormRoundTrip.xor_C
  | xor_D => exact Laws.FormRoundTrip.xor_D
  | xor_E => exact Laws.FormRoundTrip.xor_E
  | xor_H => exact Laws.FormRoundTrip.xor_H
  | xor_L => exact Laws.FormRoundTrip.xor_L
  | xor_atHL => exact Laws.FormRoundTrip.xor_atHL
  | xor_A => exact Laws.FormRoundTrip.xor_A
  | or_B => exact Laws.FormRoundTrip.or_B
  | or_C => exact Laws.FormRoundTrip.or_C
  | or_D => exact Laws.FormRoundTrip.or_D
  | or_E => exact Laws.FormRoundTrip.or_E
  | or_H => exact Laws.FormRoundTrip.or_H
  | or_L => exact Laws.FormRoundTrip.or_L
  | or_atHL => exact Laws.FormRoundTrip.or_atHL
  | or_A => exact Laws.FormRoundTrip.or_A
  | cp_B => exact Laws.FormRoundTrip.cp_B
  | cp_C => exact Laws.FormRoundTrip.cp_C
  | cp_D => exact Laws.FormRoundTrip.cp_D
  | cp_E => exact Laws.FormRoundTrip.cp_E
  | cp_H => exact Laws.FormRoundTrip.cp_H
  | cp_L => exact Laws.FormRoundTrip.cp_L
  | cp_atHL => exact Laws.FormRoundTrip.cp_atHL
  | cp_A => exact Laws.FormRoundTrip.cp_A
  | ret_NZ => exact Laws.FormRoundTrip.ret_NZ
  | pop_BC => exact Laws.FormRoundTrip.pop_BC
  | jp_NZ_a16 nn => exact Laws.FormRoundTrip.jp_NZ_a16 nn
  | jp_a16 nn => exact Laws.FormRoundTrip.jp_a16 nn
  | call_NZ_a16 nn => exact Laws.FormRoundTrip.call_NZ_a16 nn
  | push_BC => exact Laws.FormRoundTrip.push_BC
  | add_A_d8 n => exact Laws.FormRoundTrip.add_A_d8 n
  | rst_00 => exact Laws.FormRoundTrip.rst_00
  | ret_Z => exact Laws.FormRoundTrip.ret_Z
  | ret => exact Laws.FormRoundTrip.ret
  | jp_Z_a16 nn => exact Laws.FormRoundTrip.jp_Z_a16 nn
  | prefixCb cb => exact Laws.FormRoundTrip.prefixCb cb
  | call_Z_a16 nn => exact Laws.FormRoundTrip.call_Z_a16 nn
  | call_a16 nn => exact Laws.FormRoundTrip.call_a16 nn
  | adc_A_d8 n => exact Laws.FormRoundTrip.adc_A_d8 n
  | rst_08 => exact Laws.FormRoundTrip.rst_08
  | ret_NC => exact Laws.FormRoundTrip.ret_NC
  | pop_DE => exact Laws.FormRoundTrip.pop_DE
  | jp_NC_a16 nn => exact Laws.FormRoundTrip.jp_NC_a16 nn
  | illegal_D3 => exact Laws.FormRoundTrip.illegal_D3
  | call_NC_a16 nn => exact Laws.FormRoundTrip.call_NC_a16 nn
  | push_DE => exact Laws.FormRoundTrip.push_DE
  | sub_d8 n => exact Laws.FormRoundTrip.sub_d8 n
  | rst_10 => exact Laws.FormRoundTrip.rst_10
  | ret_C => exact Laws.FormRoundTrip.ret_C
  | reti => exact Laws.FormRoundTrip.reti
  | jp_C_a16 nn => exact Laws.FormRoundTrip.jp_C_a16 nn
  | illegal_DB => exact Laws.FormRoundTrip.illegal_DB
  | call_C_a16 nn => exact Laws.FormRoundTrip.call_C_a16 nn
  | illegal_DD => exact Laws.FormRoundTrip.illegal_DD
  | sbc_A_d8 n => exact Laws.FormRoundTrip.sbc_A_d8 n
  | rst_18 => exact Laws.FormRoundTrip.rst_18
  | ldh_atA8_A n => exact Laws.FormRoundTrip.ldh_atA8_A n
  | pop_HL => exact Laws.FormRoundTrip.pop_HL
  | ld_atC_A => exact Laws.FormRoundTrip.ld_atC_A
  | illegal_E3 => exact Laws.FormRoundTrip.illegal_E3
  | illegal_E4 => exact Laws.FormRoundTrip.illegal_E4
  | push_HL => exact Laws.FormRoundTrip.push_HL
  | and_d8 n => exact Laws.FormRoundTrip.and_d8 n
  | rst_20 => exact Laws.FormRoundTrip.rst_20
  | add_SP_e8 n => exact Laws.FormRoundTrip.add_SP_e8 n
  | jp_HL => exact Laws.FormRoundTrip.jp_HL
  | ld_atA16_A nn => exact Laws.FormRoundTrip.ld_atA16_A nn
  | illegal_EB => exact Laws.FormRoundTrip.illegal_EB
  | illegal_EC => exact Laws.FormRoundTrip.illegal_EC
  | illegal_ED => exact Laws.FormRoundTrip.illegal_ED
  | xor_d8 n => exact Laws.FormRoundTrip.xor_d8 n
  | rst_28 => exact Laws.FormRoundTrip.rst_28
  | ldh_A_atA8 n => exact Laws.FormRoundTrip.ldh_A_atA8 n
  | pop_AF => exact Laws.FormRoundTrip.pop_AF
  | ld_A_atC => exact Laws.FormRoundTrip.ld_A_atC
  | di => exact Laws.FormRoundTrip.di
  | illegal_F4 => exact Laws.FormRoundTrip.illegal_F4
  | push_AF => exact Laws.FormRoundTrip.push_AF
  | or_d8 n => exact Laws.FormRoundTrip.or_d8 n
  | rst_30 => exact Laws.FormRoundTrip.rst_30
  | ld_HL_SPe8 n => exact Laws.FormRoundTrip.ld_HL_SPe8 n
  | ld_SP_HL => exact Laws.FormRoundTrip.ld_SP_HL
  | ld_A_atA16 nn => exact Laws.FormRoundTrip.ld_A_atA16 nn
  | ei => exact Laws.FormRoundTrip.ei
  | illegal_FC => exact Laws.FormRoundTrip.illegal_FC
  | illegal_FD => exact Laws.FormRoundTrip.illegal_FD
  | cp_d8 n => exact Laws.FormRoundTrip.cp_d8 n
  | rst_38 => exact Laws.FormRoundTrip.rst_38
  | rlc_B => exact Laws.FormRoundTrip.rlc_B
  | rlc_C => exact Laws.FormRoundTrip.rlc_C
  | rlc_D => exact Laws.FormRoundTrip.rlc_D
  | rlc_E => exact Laws.FormRoundTrip.rlc_E
  | rlc_H => exact Laws.FormRoundTrip.rlc_H
  | rlc_L => exact Laws.FormRoundTrip.rlc_L
  | rlc_atHL => exact Laws.FormRoundTrip.rlc_atHL
  | rlc_A => exact Laws.FormRoundTrip.rlc_A
  | rrc_B => exact Laws.FormRoundTrip.rrc_B
  | rrc_C => exact Laws.FormRoundTrip.rrc_C
  | rrc_D => exact Laws.FormRoundTrip.rrc_D
  | rrc_E => exact Laws.FormRoundTrip.rrc_E
  | rrc_H => exact Laws.FormRoundTrip.rrc_H
  | rrc_L => exact Laws.FormRoundTrip.rrc_L
  | rrc_atHL => exact Laws.FormRoundTrip.rrc_atHL
  | rrc_A => exact Laws.FormRoundTrip.rrc_A
  | rl_B => exact Laws.FormRoundTrip.rl_B
  | rl_C => exact Laws.FormRoundTrip.rl_C
  | rl_D => exact Laws.FormRoundTrip.rl_D
  | rl_E => exact Laws.FormRoundTrip.rl_E
  | rl_H => exact Laws.FormRoundTrip.rl_H
  | rl_L => exact Laws.FormRoundTrip.rl_L
  | rl_atHL => exact Laws.FormRoundTrip.rl_atHL
  | rl_A => exact Laws.FormRoundTrip.rl_A
  | rr_B => exact Laws.FormRoundTrip.rr_B
  | rr_C => exact Laws.FormRoundTrip.rr_C
  | rr_D => exact Laws.FormRoundTrip.rr_D
  | rr_E => exact Laws.FormRoundTrip.rr_E
  | rr_H => exact Laws.FormRoundTrip.rr_H
  | rr_L => exact Laws.FormRoundTrip.rr_L
  | rr_atHL => exact Laws.FormRoundTrip.rr_atHL
  | rr_A => exact Laws.FormRoundTrip.rr_A
  | sla_B => exact Laws.FormRoundTrip.sla_B
  | sla_C => exact Laws.FormRoundTrip.sla_C
  | sla_D => exact Laws.FormRoundTrip.sla_D
  | sla_E => exact Laws.FormRoundTrip.sla_E
  | sla_H => exact Laws.FormRoundTrip.sla_H
  | sla_L => exact Laws.FormRoundTrip.sla_L
  | sla_atHL => exact Laws.FormRoundTrip.sla_atHL
  | sla_A => exact Laws.FormRoundTrip.sla_A
  | sra_B => exact Laws.FormRoundTrip.sra_B
  | sra_C => exact Laws.FormRoundTrip.sra_C
  | sra_D => exact Laws.FormRoundTrip.sra_D
  | sra_E => exact Laws.FormRoundTrip.sra_E
  | sra_H => exact Laws.FormRoundTrip.sra_H
  | sra_L => exact Laws.FormRoundTrip.sra_L
  | sra_atHL => exact Laws.FormRoundTrip.sra_atHL
  | sra_A => exact Laws.FormRoundTrip.sra_A
  | swap_B => exact Laws.FormRoundTrip.swap_B
  | swap_C => exact Laws.FormRoundTrip.swap_C
  | swap_D => exact Laws.FormRoundTrip.swap_D
  | swap_E => exact Laws.FormRoundTrip.swap_E
  | swap_H => exact Laws.FormRoundTrip.swap_H
  | swap_L => exact Laws.FormRoundTrip.swap_L
  | swap_atHL => exact Laws.FormRoundTrip.swap_atHL
  | swap_A => exact Laws.FormRoundTrip.swap_A
  | srl_B => exact Laws.FormRoundTrip.srl_B
  | srl_C => exact Laws.FormRoundTrip.srl_C
  | srl_D => exact Laws.FormRoundTrip.srl_D
  | srl_E => exact Laws.FormRoundTrip.srl_E
  | srl_H => exact Laws.FormRoundTrip.srl_H
  | srl_L => exact Laws.FormRoundTrip.srl_L
  | srl_atHL => exact Laws.FormRoundTrip.srl_atHL
  | srl_A => exact Laws.FormRoundTrip.srl_A
  | bit_0_B => exact Laws.FormRoundTrip.bit_0_B
  | bit_0_C => exact Laws.FormRoundTrip.bit_0_C
  | bit_0_D => exact Laws.FormRoundTrip.bit_0_D
  | bit_0_E => exact Laws.FormRoundTrip.bit_0_E
  | bit_0_H => exact Laws.FormRoundTrip.bit_0_H
  | bit_0_L => exact Laws.FormRoundTrip.bit_0_L
  | bit_0_atHL => exact Laws.FormRoundTrip.bit_0_atHL
  | bit_0_A => exact Laws.FormRoundTrip.bit_0_A
  | bit_1_B => exact Laws.FormRoundTrip.bit_1_B
  | bit_1_C => exact Laws.FormRoundTrip.bit_1_C
  | bit_1_D => exact Laws.FormRoundTrip.bit_1_D
  | bit_1_E => exact Laws.FormRoundTrip.bit_1_E
  | bit_1_H => exact Laws.FormRoundTrip.bit_1_H
  | bit_1_L => exact Laws.FormRoundTrip.bit_1_L
  | bit_1_atHL => exact Laws.FormRoundTrip.bit_1_atHL
  | bit_1_A => exact Laws.FormRoundTrip.bit_1_A
  | bit_2_B => exact Laws.FormRoundTrip.bit_2_B
  | bit_2_C => exact Laws.FormRoundTrip.bit_2_C
  | bit_2_D => exact Laws.FormRoundTrip.bit_2_D
  | bit_2_E => exact Laws.FormRoundTrip.bit_2_E
  | bit_2_H => exact Laws.FormRoundTrip.bit_2_H
  | bit_2_L => exact Laws.FormRoundTrip.bit_2_L
  | bit_2_atHL => exact Laws.FormRoundTrip.bit_2_atHL
  | bit_2_A => exact Laws.FormRoundTrip.bit_2_A
  | bit_3_B => exact Laws.FormRoundTrip.bit_3_B
  | bit_3_C => exact Laws.FormRoundTrip.bit_3_C
  | bit_3_D => exact Laws.FormRoundTrip.bit_3_D
  | bit_3_E => exact Laws.FormRoundTrip.bit_3_E
  | bit_3_H => exact Laws.FormRoundTrip.bit_3_H
  | bit_3_L => exact Laws.FormRoundTrip.bit_3_L
  | bit_3_atHL => exact Laws.FormRoundTrip.bit_3_atHL
  | bit_3_A => exact Laws.FormRoundTrip.bit_3_A
  | bit_4_B => exact Laws.FormRoundTrip.bit_4_B
  | bit_4_C => exact Laws.FormRoundTrip.bit_4_C
  | bit_4_D => exact Laws.FormRoundTrip.bit_4_D
  | bit_4_E => exact Laws.FormRoundTrip.bit_4_E
  | bit_4_H => exact Laws.FormRoundTrip.bit_4_H
  | bit_4_L => exact Laws.FormRoundTrip.bit_4_L
  | bit_4_atHL => exact Laws.FormRoundTrip.bit_4_atHL
  | bit_4_A => exact Laws.FormRoundTrip.bit_4_A
  | bit_5_B => exact Laws.FormRoundTrip.bit_5_B
  | bit_5_C => exact Laws.FormRoundTrip.bit_5_C
  | bit_5_D => exact Laws.FormRoundTrip.bit_5_D
  | bit_5_E => exact Laws.FormRoundTrip.bit_5_E
  | bit_5_H => exact Laws.FormRoundTrip.bit_5_H
  | bit_5_L => exact Laws.FormRoundTrip.bit_5_L
  | bit_5_atHL => exact Laws.FormRoundTrip.bit_5_atHL
  | bit_5_A => exact Laws.FormRoundTrip.bit_5_A
  | bit_6_B => exact Laws.FormRoundTrip.bit_6_B
  | bit_6_C => exact Laws.FormRoundTrip.bit_6_C
  | bit_6_D => exact Laws.FormRoundTrip.bit_6_D
  | bit_6_E => exact Laws.FormRoundTrip.bit_6_E
  | bit_6_H => exact Laws.FormRoundTrip.bit_6_H
  | bit_6_L => exact Laws.FormRoundTrip.bit_6_L
  | bit_6_atHL => exact Laws.FormRoundTrip.bit_6_atHL
  | bit_6_A => exact Laws.FormRoundTrip.bit_6_A
  | bit_7_B => exact Laws.FormRoundTrip.bit_7_B
  | bit_7_C => exact Laws.FormRoundTrip.bit_7_C
  | bit_7_D => exact Laws.FormRoundTrip.bit_7_D
  | bit_7_E => exact Laws.FormRoundTrip.bit_7_E
  | bit_7_H => exact Laws.FormRoundTrip.bit_7_H
  | bit_7_L => exact Laws.FormRoundTrip.bit_7_L
  | bit_7_atHL => exact Laws.FormRoundTrip.bit_7_atHL
  | bit_7_A => exact Laws.FormRoundTrip.bit_7_A
  | res_0_B => exact Laws.FormRoundTrip.res_0_B
  | res_0_C => exact Laws.FormRoundTrip.res_0_C
  | res_0_D => exact Laws.FormRoundTrip.res_0_D
  | res_0_E => exact Laws.FormRoundTrip.res_0_E
  | res_0_H => exact Laws.FormRoundTrip.res_0_H
  | res_0_L => exact Laws.FormRoundTrip.res_0_L
  | res_0_atHL => exact Laws.FormRoundTrip.res_0_atHL
  | res_0_A => exact Laws.FormRoundTrip.res_0_A
  | res_1_B => exact Laws.FormRoundTrip.res_1_B
  | res_1_C => exact Laws.FormRoundTrip.res_1_C
  | res_1_D => exact Laws.FormRoundTrip.res_1_D
  | res_1_E => exact Laws.FormRoundTrip.res_1_E
  | res_1_H => exact Laws.FormRoundTrip.res_1_H
  | res_1_L => exact Laws.FormRoundTrip.res_1_L
  | res_1_atHL => exact Laws.FormRoundTrip.res_1_atHL
  | res_1_A => exact Laws.FormRoundTrip.res_1_A
  | res_2_B => exact Laws.FormRoundTrip.res_2_B
  | res_2_C => exact Laws.FormRoundTrip.res_2_C
  | res_2_D => exact Laws.FormRoundTrip.res_2_D
  | res_2_E => exact Laws.FormRoundTrip.res_2_E
  | res_2_H => exact Laws.FormRoundTrip.res_2_H
  | res_2_L => exact Laws.FormRoundTrip.res_2_L
  | res_2_atHL => exact Laws.FormRoundTrip.res_2_atHL
  | res_2_A => exact Laws.FormRoundTrip.res_2_A
  | res_3_B => exact Laws.FormRoundTrip.res_3_B
  | res_3_C => exact Laws.FormRoundTrip.res_3_C
  | res_3_D => exact Laws.FormRoundTrip.res_3_D
  | res_3_E => exact Laws.FormRoundTrip.res_3_E
  | res_3_H => exact Laws.FormRoundTrip.res_3_H
  | res_3_L => exact Laws.FormRoundTrip.res_3_L
  | res_3_atHL => exact Laws.FormRoundTrip.res_3_atHL
  | res_3_A => exact Laws.FormRoundTrip.res_3_A
  | res_4_B => exact Laws.FormRoundTrip.res_4_B
  | res_4_C => exact Laws.FormRoundTrip.res_4_C
  | res_4_D => exact Laws.FormRoundTrip.res_4_D
  | res_4_E => exact Laws.FormRoundTrip.res_4_E
  | res_4_H => exact Laws.FormRoundTrip.res_4_H
  | res_4_L => exact Laws.FormRoundTrip.res_4_L
  | res_4_atHL => exact Laws.FormRoundTrip.res_4_atHL
  | res_4_A => exact Laws.FormRoundTrip.res_4_A
  | res_5_B => exact Laws.FormRoundTrip.res_5_B
  | res_5_C => exact Laws.FormRoundTrip.res_5_C
  | res_5_D => exact Laws.FormRoundTrip.res_5_D
  | res_5_E => exact Laws.FormRoundTrip.res_5_E
  | res_5_H => exact Laws.FormRoundTrip.res_5_H
  | res_5_L => exact Laws.FormRoundTrip.res_5_L
  | res_5_atHL => exact Laws.FormRoundTrip.res_5_atHL
  | res_5_A => exact Laws.FormRoundTrip.res_5_A
  | res_6_B => exact Laws.FormRoundTrip.res_6_B
  | res_6_C => exact Laws.FormRoundTrip.res_6_C
  | res_6_D => exact Laws.FormRoundTrip.res_6_D
  | res_6_E => exact Laws.FormRoundTrip.res_6_E
  | res_6_H => exact Laws.FormRoundTrip.res_6_H
  | res_6_L => exact Laws.FormRoundTrip.res_6_L
  | res_6_atHL => exact Laws.FormRoundTrip.res_6_atHL
  | res_6_A => exact Laws.FormRoundTrip.res_6_A
  | res_7_B => exact Laws.FormRoundTrip.res_7_B
  | res_7_C => exact Laws.FormRoundTrip.res_7_C
  | res_7_D => exact Laws.FormRoundTrip.res_7_D
  | res_7_E => exact Laws.FormRoundTrip.res_7_E
  | res_7_H => exact Laws.FormRoundTrip.res_7_H
  | res_7_L => exact Laws.FormRoundTrip.res_7_L
  | res_7_atHL => exact Laws.FormRoundTrip.res_7_atHL
  | res_7_A => exact Laws.FormRoundTrip.res_7_A
  | set_0_B => exact Laws.FormRoundTrip.set_0_B
  | set_0_C => exact Laws.FormRoundTrip.set_0_C
  | set_0_D => exact Laws.FormRoundTrip.set_0_D
  | set_0_E => exact Laws.FormRoundTrip.set_0_E
  | set_0_H => exact Laws.FormRoundTrip.set_0_H
  | set_0_L => exact Laws.FormRoundTrip.set_0_L
  | set_0_atHL => exact Laws.FormRoundTrip.set_0_atHL
  | set_0_A => exact Laws.FormRoundTrip.set_0_A
  | set_1_B => exact Laws.FormRoundTrip.set_1_B
  | set_1_C => exact Laws.FormRoundTrip.set_1_C
  | set_1_D => exact Laws.FormRoundTrip.set_1_D
  | set_1_E => exact Laws.FormRoundTrip.set_1_E
  | set_1_H => exact Laws.FormRoundTrip.set_1_H
  | set_1_L => exact Laws.FormRoundTrip.set_1_L
  | set_1_atHL => exact Laws.FormRoundTrip.set_1_atHL
  | set_1_A => exact Laws.FormRoundTrip.set_1_A
  | set_2_B => exact Laws.FormRoundTrip.set_2_B
  | set_2_C => exact Laws.FormRoundTrip.set_2_C
  | set_2_D => exact Laws.FormRoundTrip.set_2_D
  | set_2_E => exact Laws.FormRoundTrip.set_2_E
  | set_2_H => exact Laws.FormRoundTrip.set_2_H
  | set_2_L => exact Laws.FormRoundTrip.set_2_L
  | set_2_atHL => exact Laws.FormRoundTrip.set_2_atHL
  | set_2_A => exact Laws.FormRoundTrip.set_2_A
  | set_3_B => exact Laws.FormRoundTrip.set_3_B
  | set_3_C => exact Laws.FormRoundTrip.set_3_C
  | set_3_D => exact Laws.FormRoundTrip.set_3_D
  | set_3_E => exact Laws.FormRoundTrip.set_3_E
  | set_3_H => exact Laws.FormRoundTrip.set_3_H
  | set_3_L => exact Laws.FormRoundTrip.set_3_L
  | set_3_atHL => exact Laws.FormRoundTrip.set_3_atHL
  | set_3_A => exact Laws.FormRoundTrip.set_3_A
  | set_4_B => exact Laws.FormRoundTrip.set_4_B
  | set_4_C => exact Laws.FormRoundTrip.set_4_C
  | set_4_D => exact Laws.FormRoundTrip.set_4_D
  | set_4_E => exact Laws.FormRoundTrip.set_4_E
  | set_4_H => exact Laws.FormRoundTrip.set_4_H
  | set_4_L => exact Laws.FormRoundTrip.set_4_L
  | set_4_atHL => exact Laws.FormRoundTrip.set_4_atHL
  | set_4_A => exact Laws.FormRoundTrip.set_4_A
  | set_5_B => exact Laws.FormRoundTrip.set_5_B
  | set_5_C => exact Laws.FormRoundTrip.set_5_C
  | set_5_D => exact Laws.FormRoundTrip.set_5_D
  | set_5_E => exact Laws.FormRoundTrip.set_5_E
  | set_5_H => exact Laws.FormRoundTrip.set_5_H
  | set_5_L => exact Laws.FormRoundTrip.set_5_L
  | set_5_atHL => exact Laws.FormRoundTrip.set_5_atHL
  | set_5_A => exact Laws.FormRoundTrip.set_5_A
  | set_6_B => exact Laws.FormRoundTrip.set_6_B
  | set_6_C => exact Laws.FormRoundTrip.set_6_C
  | set_6_D => exact Laws.FormRoundTrip.set_6_D
  | set_6_E => exact Laws.FormRoundTrip.set_6_E
  | set_6_H => exact Laws.FormRoundTrip.set_6_H
  | set_6_L => exact Laws.FormRoundTrip.set_6_L
  | set_6_atHL => exact Laws.FormRoundTrip.set_6_atHL
  | set_6_A => exact Laws.FormRoundTrip.set_6_A
  | set_7_B => exact Laws.FormRoundTrip.set_7_B
  | set_7_C => exact Laws.FormRoundTrip.set_7_C
  | set_7_D => exact Laws.FormRoundTrip.set_7_D
  | set_7_E => exact Laws.FormRoundTrip.set_7_E
  | set_7_H => exact Laws.FormRoundTrip.set_7_H
  | set_7_L => exact Laws.FormRoundTrip.set_7_L
  | set_7_atHL => exact Laws.FormRoundTrip.set_7_atHL
  | set_7_A => exact Laws.FormRoundTrip.set_7_A

/-- A property of the forms' instructions is a property of every instruction. -/
theorem forall_instr {p : Instr → Prop} (h : ∀ x : Form, p x.instr) (i : Instr) : p i := form_instr i ▸ h i.form

/-- The form of a form's instruction is the form, but for `ld` between two (HL) operands, which is HALT. -/
theorem instr_form (x : Form) (h : x ≠ .ld .atHL .atHL) : x.instr.form = x := by
  cases x with
  | illegal k => cases k <;> rfl
  | alu op o => cases op <;> cases o <;> first | rfl | (rename_i r; cases r <;> rfl)
  | aluImm op n => cases op <;> rfl
  | inc o => cases o <;> first | rfl | (rename_i r; cases r <;> rfl)
  | dec o => cases o <;> first | rfl | (rename_i r; cases r <;> rfl)
  | addHL p => cases p <;> rfl
  | inc16 p => cases p <;> rfl
  | dec16 p => cases p <;> rfl
  | accRot op => cases op <;> rfl
  | rot op o => cases op <;> cases o <;> first | rfl | (rename_i r; cases r <;> rfl)
  | bit b o => fin_cases b <;> cases o <;> first | rfl | (rename_i r; cases r <;> rfl)
  | res b o => fin_cases b <;> cases o <;> first | rfl | (rename_i r; cases r <;> rfl)
  | set b o => fin_cases b <;> cases o <;> first | rfl | (rename_i r; cases r <;> rfl)
  | jp k nn => cases k <;> first | rfl | (rename_i r; cases r <;> rfl)
  | jr k n => cases k <;> first | rfl | (rename_i r; cases r <;> rfl)
  | call k nn => cases k <;> first | rfl | (rename_i r; cases r <;> rfl)
  | ret k => cases k <;> first | rfl | (rename_i r; cases r <;> rfl)
  | rst t => fin_cases t <;> rfl
  | push p => cases p <;> rfl
  | pop p => cases p <;> rfl
  | ld dst src =>
    cases dst <;> cases src <;>
      first
        | rfl
        | exact absurd rfl h
        | (rename_i r q; cases r <;> cases q <;> rfl)
        | (rename_i r; cases r <;> rfl)
  | ldImm o n => cases o <;> first | rfl | (rename_i r; cases r <;> rfl)
  | storeA p => cases p <;> rfl
  | loadA p => cases p <;> rfl
  | ld16 p nn => cases p <;> rfl
  | _ => rfl

/-! ### One lemma per form -/

variable (s : State)

theorem exec_alu (op : AluOp) (o : Operand8) :
    exec (.ofAlu op o) s =
      .next ((s.aluOperand op o).advance
        (s.cost (slotOf (.ofAlu op o)) (match o with | .reg _ => 1 | .atHL => 2))) := by
  cases op <;> cases o <;> first | rfl | (rename_i r; cases r <;> rfl)

theorem exec_aluImm (op : AluOp) (n : Byte) :
    exec (.ofAluImm op n) s =
      .next ((s.applyAlu op n).advance (s.cost (slotOf (.ofAluImm op n)) 2)) := by
  cases op <;> rfl

theorem exec_inc (o : Operand8) :
    exec (.ofInc o) s =
      .next ((s.incOperand o).advance (s.cost (slotOf (.ofInc o)) (match o with | .reg _ => 1 | .atHL => 3))) := by
  cases o <;> first | rfl | (rename_i r; cases r <;> rfl)

theorem exec_dec (o : Operand8) :
    exec (.ofDec o) s =
      .next ((s.decOperand o).advance (s.cost (slotOf (.ofDec o)) (match o with | .reg _ => 1 | .atHL => 3))) := by
  cases o <;> first | rfl | (rename_i r; cases r <;> rfl)

theorem exec_addHL (p : Reg16) : exec (.ofAddHL p) s =
      .next ((s.addHL p).advance (s.cost (slotOf (.ofAddHL p)) 2)) := by
  cases p <;> rfl

theorem exec_inc16 (p : Reg16) : exec (.ofInc16 p) s =
      .next ((s.inc16 p).advance (s.cost (slotOf (.ofInc16 p)) 2)) := by
  cases p <;> rfl

theorem exec_dec16 (p : Reg16) : exec (.ofDec16 p) s =
      .next ((s.dec16 p).advance (s.cost (slotOf (.ofDec16 p)) 2)) := by
  cases p <;> rfl

theorem exec_accRot (op : AccRot) : exec (.ofAccRot op) s =
      .next ((s.accRot op).advance (s.cost (slotOf (.ofAccRot op)) 1)) := by
  cases op <;> rfl

theorem exec_rot (op : RotOp) (o : Operand8) :
    exec (.ofRot op o) s = .next ((s.rotOperand op o).advance (s.cost (slotOf (.ofRot op o)) (cbCost 4 o))) := by
  cases op <;> cases o <;> first | rfl | (rename_i r; cases r <;> rfl)

theorem exec_bit (b : Fin 8) (o : Operand8) :
    exec (.ofBit b o) s = .next ((s.bitOperand b o).advance (s.cost (slotOf (.ofBit b o)) (cbCost 3 o))) := by
  fin_cases b <;> cases o <;> first | rfl | (rename_i r; cases r <;> rfl)

theorem exec_res (b : Fin 8) (o : Operand8) :
    exec (.ofRes b o) s = .next ((s.resOperand b o).advance (s.cost (slotOf (.ofRes b o)) (cbCost 4 o))) := by
  fin_cases b <;> cases o <;> first | rfl | (rename_i r; cases r <;> rfl)

theorem exec_set (b : Fin 8) (o : Operand8) :
    exec (.ofSet b o) s = .next ((s.setOperand b o).advance (s.cost (slotOf (.ofSet b o)) (cbCost 4 o))) := by
  fin_cases b <;> cases o <;> first | rfl | (rename_i r; cases r <;> rfl)

theorem exec_jp (k : Option Cond) (nn : Word) : exec (.ofJp k nn) s =
      .next (s.jump k nn (slotOf (.ofJp k nn)) 4 3) := by
  cases k with
  | none => rfl
  | some q => cases q <;> rfl

theorem exec_jr (k : Option Cond) (n : Byte) : exec (.ofJr k n) s =
      .next (s.jumpRel k n (slotOf (.ofJr k n)) 3 2) := by
  cases k with
  | none => rfl
  | some q => cases q <;> rfl

theorem exec_call (k : Option Cond) (nn : Word) : exec (.ofCall k nn) s =
      .next (s.call k nn (slotOf (.ofCall k nn)) 6 3) := by
  cases k with
  | none => rfl
  | some q => cases q <;> rfl

theorem exec_ret_always : exec (.ofRet none) s = .next (s.popPC.advance (s.cost (slotOf (.ofRet none)) 4)) := rfl

theorem exec_ret_cond (k : Cond) : exec (.ofRet (some k)) s =
      .next (s.ret (some k) (slotOf (.ofRet (some k))) 5 2) := by
  cases k <;> rfl

theorem exec_rst (t : Fin 8) : exec (.ofRst t) s = .next ((s.restart t).advance (s.cost (slotOf (.ofRst t)) 4)) := by
  fin_cases t <;> rfl

theorem exec_push (p : StackPair) : exec (.ofPush p) s =
      .next ((s.push p).advance (s.cost (slotOf (.ofPush p)) 4)) := by
  cases p <;> rfl

theorem exec_pop (p : StackPair) : exec (.ofPop p) s =
      .next ((s.pop p).advance (s.cost (slotOf (.ofPop p)) 3)) := by
  cases p <;> rfl

theorem exec_ld_reg_reg (r q : Reg8) :
    exec (.ofLd (.reg r) (.reg q)) s =
      .next ((s.loadOperand (.reg r) (.reg q)).advance (s.cost (slotOf (.ofLd (.reg r) (.reg q))) 1)) := by
  cases r <;> cases q <;> rfl

theorem exec_ld_reg_atHL (r : Reg8) :
    exec (.ofLd (.reg r) .atHL) s =
      .next ((s.loadOperand (.reg r) .atHL).advance (s.cost (slotOf (.ofLd (.reg r) .atHL)) 2)) := by
  cases r <;> rfl

theorem exec_ld_atHL_reg (r : Reg8) :
    exec (.ofLd .atHL (.reg r)) s =
      .next ((s.loadOperand .atHL (.reg r)).advance (s.cost (slotOf (.ofLd .atHL (.reg r))) 2)) := by
  cases r <;> rfl

theorem exec_ldImm (o : Operand8) (n : Byte) :
    exec (.ofLdImm o n) s =
      .next ((s.write8 o n).advance (s.cost (slotOf (.ofLdImm o n)) (match o with | .reg _ => 2 | .atHL => 3))) := by
  cases o <;> first | rfl | (rename_i r; cases r <;> rfl)

theorem exec_storeA (p : Pointer) : exec (.ofStoreA p) s =
      .next ((s.storeA p).advance (s.cost (slotOf (.ofStoreA p)) 2)) := by
  cases p <;> rfl

theorem exec_loadA (p : Pointer) : exec (.ofLoadA p) s =
      .next ((s.loadA p).advance (s.cost (slotOf (.ofLoadA p)) 2)) := by
  cases p <;> rfl

theorem exec_ld16 (p : Reg16) (nn : Word) : exec (.ofLd16 p nn) s =
      .next ((s.setReg16 p nn).advance (s.cost (slotOf (.ofLd16 p nn)) 3)) := by
  cases p <;> rfl

theorem exec_illegal (k : IllegalSlot) : exec (.ofIllegal k) s =
      .next (s.illegal.advance (s.cost (slotOf (.ofIllegal k)) 1)) := by
  cases k <;> rfl

end Sys2Proof.Machine
end

