-- ==== Sys2Proof/Laws/Memory.lean ====
section
/-! SUPPORT. What the memory operations do: read after write, and that the canonical form is kept. -/

namespace Sys2Proof.Machine

/-! ### The array -/

theorem put_read_other (x y : Nat) (v : Byte) (m : Memory) (h : y ≠ x) :
    (Memory.put x v m).read y = m.read y := by
  unfold Memory.put
  split
  · rfl
  · simp [Memory.read, Ne.symm h]

/-- A write leaves every other address alone, in any list. -/
theorem write_read_other (m : Memory) (x y : Nat) (v : Byte) (h : y ≠ x) :
    (m.write x v).read y = m.read y := by
  induction m with
  | nil => exact put_read_other x y v [] h
  | cons c rest ih =>
    obtain ⟨k, u⟩ := c
    simp only [Memory.write]
    split
    · exact put_read_other x y v _ h
    · split
      · next hx => subst hx; rw [put_read_other x y v _ h]; simp [Memory.read, Ne.symm h]
      · simp only [Memory.read, ih]

theorem read_below (m : Memory) (low x : Nat) (h : Memory.wfFrom low m = true) (hx : x < low) :
    m.read x = Config.unwrittenByte := by
  induction m generalizing low with
  | nil => rfl
  | cons c rest ih =>
    obtain ⟨k, u⟩ := c
    simp only [Memory.wfFrom, Bool.and_eq_true, decide_eq_true_eq] at h
    have hk : k ≠ x := by omega
    simp only [Memory.read, hk, if_false]
    exact ih (k + 1) h.2 (by omega)

theorem put_read_same (x : Nat) (v : Byte) (rest : Memory) (h : Memory.wfFrom (x + 1) rest = true) :
    (Memory.put x v rest).read x = v := by
  unfold Memory.put
  split
  · next hv => rw [hv]; exact read_below rest (x + 1) x h (Nat.lt_succ_self x)
  · simp [Memory.read]

theorem wfFrom_mono (m : Memory) (low low' : Nat) (h : Memory.wfFrom low m = true) (hl : low' ≤ low) :
    Memory.wfFrom low' m = true := by
  cases m with
  | nil => rfl
  | cons c rest =>
    obtain ⟨k, u⟩ := c
    simp only [Memory.wfFrom, Bool.and_eq_true, decide_eq_true_eq] at h ⊢
    exact ⟨⟨⟨by omega, h.1.1.2⟩, h.1.2⟩, h.2⟩

theorem wfFrom_tail {low k : Nat} {u : Byte} {rest : Memory}
    (h : Memory.wfFrom low ((k, u) :: rest) = true) : Memory.wfFrom (k + 1) rest = true := by
  simp only [Memory.wfFrom, Bool.and_eq_true] at h
  exact h.2

/-- A read after a write to the same address gives the value written, in canonical memory. -/
theorem write_read_same (m : Memory) (low x : Nat) (v : Byte) (h : Memory.wfFrom low m = true) :
    (m.write x v).read x = v := by
  induction m generalizing low with
  | nil => exact put_read_same x v [] rfl
  | cons c rest ih =>
    obtain ⟨k, u⟩ := c
    have ht := wfFrom_tail h
    simp only [Memory.write]
    split
    · next hlt =>
      refine put_read_same x v _ (wfFrom_mono _ k (x + 1) ?_ hlt)
      simp only [Memory.wfFrom, Bool.and_eq_true, decide_eq_true_eq] at h ⊢
      exact ⟨⟨⟨Nat.le_refl k, h.1.1.2⟩, h.1.2⟩, h.2⟩
    · split
      · next hx => subst hx; exact put_read_same x v rest ht
      · next hx => simp only [Memory.read, Ne.symm hx, if_false]; exact ih (k + 1) ht

theorem put_wfFrom (low x : Nat) (v : Byte) (rest : Memory) (hl : low ≤ x) (hx : x < 65536)
    (h : Memory.wfFrom (x + 1) rest = true) : Memory.wfFrom low (Memory.put x v rest) = true := by
  unfold Memory.put
  split
  · exact wfFrom_mono rest (x + 1) low h (by omega)
  · next hv => simp [Memory.wfFrom, hl, hx, hv, h]

theorem write_wfFrom (m : Memory) (low x : Nat) (v : Byte) (h : Memory.wfFrom low m = true)
    (hl : low ≤ x) (hx : x < 65536) : Memory.wfFrom low (m.write x v) = true := by
  induction m generalizing low with
  | nil => exact put_wfFrom low x v [] hl hx rfl
  | cons c rest ih =>
    obtain ⟨k, u⟩ := c
    have ht := wfFrom_tail h
    simp only [Memory.write]
    simp only [Memory.wfFrom, Bool.and_eq_true, decide_eq_true_eq] at h
    split
    · next hlt =>
      refine put_wfFrom low x v _ hl hx ?_
      simp only [Memory.wfFrom, Bool.and_eq_true, decide_eq_true_eq]
      exact ⟨⟨⟨hlt, h.1.1.2⟩, h.1.2⟩, h.2⟩
    · split
      · next hxk => subst hxk; exact put_wfFrom low x v rest hl hx ht
      · simp only [Memory.wfFrom, Bool.and_eq_true, decide_eq_true_eq]
        exact ⟨⟨⟨h.1.1.1, h.1.1.2⟩, h.1.2⟩, ih (k + 1) ht (by omega)⟩

/-- Writing one byte at a 16-bit address keeps the canonical form. -/
theorem write_wf (m : Memory) (x : Word) (v : Byte) (h : m.wf = true) : (m.write x.toNat v).wf = true :=
  write_wfFrom m 0 x.toNat v h (Nat.zero_le _) x.isLt

theorem reset_mem_wf : State.reset.mem.wf = true := rfl

/-! ### The bus -/

theorem load_flat (s : State) (x : Word) (h : s.params.bus = .flat) : s.load x = (s.mem.read x.toNat, s) := by
  simp [State.load, h]

theorem load_external (s : State) (x : Word) (h : s.params.bus = .external) :
    s.load x = (Config.externalRead s.busLog x,
      { s with busLog := .read x (Config.externalRead s.busLog x) :: s.busLog }) := by
  simp [State.load, h]

theorem store_flat (s : State) (x : Word) (v : Byte) (h : s.params.bus = .flat) :
    s.store x v = { s with mem := s.mem.write x.toNat v } := by
  simp [State.store, h]

theorem store_external (s : State) (x : Word) (v : Byte) (h : s.params.bus = .external) :
    s.store x v = { s with busLog := .write x v :: s.busLog } := by
  simp [State.store, h]

/-- A store keeps the canonical form, whichever the bus. -/
theorem store_wf (s : State) (x : Word) (v : Byte) (h : s.mem.wf = true) : (s.store x v).mem.wf = true := by
  unfold State.store
  split
  · exact write_wf s.mem x v h
  · exact h

/-- A store leaves every byte but its own as it was, whichever the bus. -/
theorem store_read_other (s : State) (x y : Word) (v : Byte) (h : y ≠ x) :
    (s.store x v).mem.read y.toNat = s.mem.read y.toNat := by
  unfold State.store
  split
  · exact write_read_other s.mem x.toNat y.toNat v (fun e => h (BitVec.eq_of_toNat_eq e))
  · rfl

/-- Placing bytes keeps the canonical form. -/
theorem place_wf (bs : List Byte) (m : Memory) (x : Word) (h : m.wf = true) : (Memory.place m x bs).wf = true := by
  induction bs generalizing m x with
  | nil => exact h
  | cons v rest ih => exact ih (m.write x.toNat v) (x + 1#16) (write_wf m x v h)

end Sys2Proof.Machine
end

