-- ==== Sys2Proof/Laws/Effect.lean ====
section
/-! SUPPORT. What a dispatch can do, said once: the effect of each form, that `exec` is that effect and its cost, and
what the fetch, the operand reads and the effect leave alone. -/

namespace Sys2Proof.Machine

/-! ### Reads and fetches only extend the record of an external bus and move PC -/

theorem load_state (s : State) (x : Word) : (s.load x).2 = { s with busLog := (s.load x).2.busLog } := by
  unfold State.load
  split <;> rfl

theorem read8_state (s : State) (o : Operand8) : (s.read8 o).2 = { s with busLog := (s.read8 o).2.busLog } := by
  cases o with
  | reg r => rfl
  | atHL => exact load_state s s.hl

theorem fetch8_state (s : State) :
    s.fetch8.2 = { s with pc := s.fetch8.2.pc, busLog := s.fetch8.2.busLog } := by
  show (s.load s.pc).2.setPC _ = _
  rw [load_state]
  rfl

theorem fetchIf_state (s : State) (has : Bool) :
    (s.fetchIf has).2 = { s with pc := (s.fetchIf has).2.pc, busLog := (s.fetchIf has).2.busLog } := by
  unfold State.fetchIf
  split
  · exact fetch8_state s
  · rfl

theorem fetchInstr_state (s : State) :
    s.fetchInstr.2 = { s with pc := s.fetchInstr.2.pc, busLog := s.fetchInstr.2.busLog } := by
  unfold State.fetchInstr
  simp only
  rw [fetchIf_state, fetchIf_state, fetch8_state]

/-! ### The effect of each form -/

/-- The state a form's meaning makes before its cost is charged. PREFIX CB has no effect of its own (R209). -/
def formEffect (s : State) : Form → State
  | .nop => s
  | .halt => s.emit .halt
  | .stop => s.emit .stop
  | .di => s.emit .di
  | .ei => s.emit .ei
  | .illegal _ => s.illegal
  | .prefixCb _ => s
  | .alu op o => s.aluOperand op o
  | .aluImm op n => s.applyAlu op n
  | .inc o => s.incOperand o
  | .dec o => s.decOperand o
  | .daa => s.daa
  | .cpl => s.cpl
  | .scf => s.scf
  | .ccf => s.ccf
  | .addHL p => s.addHL p
  | .inc16 p => s.inc16 p
  | .dec16 p => s.dec16 p
  | .addSP n => s.addSPImm n
  | .ldHLSP n => s.loadHLSPImm n
  | .accRot op => s.accRot op
  | .rot op o => s.rotOperand op o
  | .bit b o => s.bitOperand b o
  | .res b o => s.resOperand b o
  | .set b o => s.setOperand b o
  | .jp c nn => if s.taken c then s.setPC nn else s
  | .jpHL => s.setPC s.hl
  | .jr c n => if s.taken c then s.setPC (s.pc + sext16 n) else s
  | .call c nn => if s.taken c then (s.push16 s.pc).setPC nn else s
  | .ret c => if s.taken c then s.popPC else s
  | .reti => s.popPC.emit .reti
  | .rst t => s.restart t
  | .push p => s.push p
  | .pop p => s.pop p
  | .ld dst src => loadEffect s dst src
  | .ldImm dst n => s.write8 dst n
  | .storeA p => s.storeA p
  | .loadA p => s.loadA p
  | .storeAbs nn => s.store nn s.a
  | .loadAbs nn => s.loadAAt nn
  | .storeHigh n => s.store (highPage n) s.a
  | .loadHigh n => s.loadAAt (highPage n)
  | .storeC => s.store (highPage s.c) s.a
  | .loadC => s.loadAAt (highPage s.c)
  | .ld16 p nn => s.setReg16 p nn
  | .storeSP nn => s.storeWord nn s.sp
  | .ldSPHL => s.setSP s.hl
where
  /-- A load between r8 operands; (HL) and (HL) is HALT (R211). -/
  loadEffect (s : State) : Operand8 → Operand8 → State
    | .reg r, src => s.loadOperand (.reg r) src
    | .atHL, .reg r => s.loadOperand .atHL (.reg r)
    | .atHL, .atHL => s.emit .halt

/-! ### Costs -/

@[simp] theorem cycleCost_nil (sl : Slot) (taken : Bool) (n : Nat) : cycleCost [] sl taken n = n := rfl

theorem cycleCost_named (e : Config.CycleEntry) (rest : Config.CycleTable) (taken : Bool) (n : Nat) :
    cycleCost (e :: rest) e.slot taken n = if taken then e.taken else e.notTaken := by simp [cycleCost]

theorem cycleCost_unnamed {e : Config.CycleEntry} {sl : Slot} (h : e.slot ≠ sl) (rest : Config.CycleTable)
    (taken : Bool) (n : Nat) : cycleCost (e :: rest) sl taken n = cycleCost rest sl taken n := by simp [cycleCost, h]

/-- A cost depends on the parameters alone. -/
theorem cost_of_params {s t : State} (h : t.params = s.params) (sl : Slot) (n : Nat) :
    t.cost sl n = s.cost sl n ∧ t.costNotTaken sl n = s.costNotTaken sl n := by
  simp [State.cost, State.costNotTaken, h]

/-- The cost a form charges in a state: the taken or the not-taken one (R207). -/
def formCost (s : State) (f : Form) : Nat :=
  if s.taken f.condition then s.cost (slotOf f.instr) (cycleTable f).1
  else s.costNotTaken (slotOf f.instr) (cycleTable f).2

/-- Everything `exec` can do: the form's effect and its cost. The one form left out is PREFIX CB, which does what
the CB row does (R209). -/
theorem exec_form (s : State) (f : Form) (h : ∀ cb, f ≠ .prefixCb cb) :
    exec f.instr s = .next ((formEffect s f).advance (formCost s f)) := by
  cases f with
  | prefixCb cb => exact absurd rfl (h cb)
  | alu op o => exact (exec_alu s op o).trans (by cases o <;> rfl)
  | aluImm op n => exact exec_aluImm s op n
  | inc o => exact (exec_inc s o).trans (by cases o <;> rfl)
  | dec o => exact (exec_dec s o).trans (by cases o <;> rfl)
  | addHL p => exact exec_addHL s p
  | inc16 p => exact exec_inc16 s p
  | dec16 p => exact exec_dec16 s p
  | accRot op => exact exec_accRot s op
  | rot op o => exact (exec_rot s op o).trans (by cases o <;> rfl)
  | bit b o => exact (exec_bit s b o).trans (by cases o <;> rfl)
  | res b o => exact (exec_res s b o).trans (by cases o <;> rfl)
  | set b o => exact (exec_set s b o).trans (by cases o <;> rfl)
  | jp c nn =>
    refine (exec_jp s c nn).trans ?_
    cases c with
    | none => rfl
    | some k =>
      simp only [State.jump, formEffect, formCost, Form.condition, Form.instr, cycleTable, conditional]
      split <;> simp [*]
  | jr c n =>
    refine (exec_jr s c n).trans ?_
    cases c with
    | none => rfl
    | some k =>
      simp only [State.jumpRel, State.jump, formEffect, formCost, Form.condition, Form.instr, cycleTable, conditional]
      split <;> simp [*]
  | call c nn =>
    refine (exec_call s c nn).trans ?_
    cases c with
    | none => rfl
    | some k =>
      simp only [State.call, formEffect, formCost, Form.condition, Form.instr, cycleTable, conditional]
      split <;> simp [*]
  | ret c =>
    cases c with
    | none => rfl
    | some k =>
      refine (exec_ret_cond s k).trans ?_
      simp only [State.ret, formEffect, formCost, Form.condition, Form.instr, cycleTable, conditional]
      split <;> simp [*]
  | rst t => exact exec_rst s t
  | push p => exact exec_push s p
  | pop p => exact exec_pop s p
  | ld dst src =>
    cases dst <;> cases src <;>
      first
        | rfl
        | exact exec_ld_reg_reg ..
        | exact exec_ld_reg_atHL ..
        | exact exec_ld_atHL_reg ..
  | ldImm o n => exact (exec_ldImm s o n).trans (by cases o <;> rfl)
  | storeA p => exact exec_storeA s p
  | loadA p => exact exec_loadA s p
  | ld16 p nn => exact exec_ld16 s p nn
  | illegal k => exact exec_illegal s k
  | _ => rfl

/-! ### The shared operations on an r8 operand leave every other part of the state alone -/

theorem write8_f (s : State) (o : Operand8) (v : Byte) : (s.write8 o v).f = s.f := by
  cases o <;> simp [State.write8]

theorem write8_wf (s : State) (o : Operand8) (v : Byte) (h : s.mem.wf = true) : (s.write8 o v).mem.wf = true := by
  cases o with
  | reg r => simpa [State.write8] using h
  | atHL => exact store_wf s s.hl v h

theorem write8_kept (s : State) (o : Operand8) (v : Byte) :
    (s.write8 o v).sp = s.sp ∧ (s.write8 o v).pc = s.pc ∧ (s.write8 o v).fine = s.fine ∧
      (s.write8 o v).coarse = s.coarse ∧ (s.write8 o v).locked = s.locked ∧ (s.write8 o v).params = s.params ∧
      (s.write8 o v).event = s.event ∧ (s.write8 o v).executed = s.executed := by
  cases o <;> simp [State.write8]

theorem applyAlu_kept (s : State) (op : AluOp) (v : Byte) :
    (s.applyAlu op v).mem = s.mem ∧ (s.applyAlu op v).sp = s.sp ∧ (s.applyAlu op v).pc = s.pc ∧
      (s.applyAlu op v).fine = s.fine ∧ (s.applyAlu op v).coarse = s.coarse ∧ (s.applyAlu op v).locked = s.locked ∧
      (s.applyAlu op v).params = s.params ∧ (s.applyAlu op v).event = s.event ∧
      (s.applyAlu op v).executed = s.executed ∧ (s.applyAlu op v).busLog = s.busLog := by
  cases op <;> simp [State.applyAlu]

end Sys2Proof.Machine
end

