-- ==== Sys2Proof/Tests/Slice0.lean ====
section
/-! SUPPORT. Tests with expected results from the spec: its opcode maps (R88, R89), its encodings written out bit by bit,
its vectors (95_test_vectors.md; every vector and every program was run, those kept here are at most two for an
instruction), and for each statement with hypotheses a state and operands that meet them. -/

namespace Sys2Proof.Tests

open Sys2Proof Sys2Proof.Machine

/-! ### Helpers -/

/-- Every register 0: the start state of the spec's vectors (95_test_vectors.md section 3), one choice of the reset
draws. -/
def zeroed : State := State.reset.resetWith ⟨0, 0, 0, 0, 0, 0, 0, 0, 0⟩ 0

/-- PC at an address, the instruction's bytes there, and the bytes named. -/
def placed (pc : Word) (bytes : List Byte) (cells : List (Word × Byte)) (s : State) : State :=
  { s with pc := pc, mem := cells.foldl (fun m c => m.write c.1.toNat c.2) (Memory.place s.mem pc bytes) }

/-- The state after one step. -/
def after (s : State) : State :=
  match step s with
  | .next t => t
  | .fault _ => s
  | .refused _ => s

/-- The state after an instruction. -/
def afterExec (i : Instr) (s : State) : State :=
  match exec i s with
  | .next t => t
  | .fault _ => s
  | .refused _ => s

/-- The state with an external bus. -/
def onExternalBus (s : State) : State := { s with params := { s.params with bus := .external } }

/-- The state in lock mode. -/
def inLockMode (s : State) : State := { s with params := { s.params with illegalMode := .lock } }

/-! ### WellFormed -/

/-- The one ill-formed term: the prefix slot never executes alone (R209). -/
theorem test_prefix_is_ill_formed : (Instr.prefixCb 0x37).wellFormed = false := by decide

theorem test_others_are_well_formed :
    Instr.nop.wellFormed = true ∧ (Instr.jp_a16 0xFFFF).wellFormed = true ∧ Instr.illegal_D3.wellFormed = true ∧
      Instr.set_7_A.wellFormed = true := by decide

/-- No bytes decode to the ill-formed term: the page is switched (R83). -/
theorem test_prefix_bytes_switch_the_page : decode .two [0xCB, 0x37] = .ok (.swap_A, []) := by decide

/-! ### Decoding: words written out bit by bit from the encodings of the rules -/

/-- R96 `10 000 sss`, L. -/
theorem test_encoding_add : decode .two [0b10000101] = .ok (.add_A_L, []) := by decide

/-- R105 `10 011 sss`, B. -/
theorem test_encoding_sbc : decode .two [0b10011000] = .ok (.sbc_A_B, []) := by decide

/-- R117 `10 111 sss`, E. -/
theorem test_encoding_cp : decode .two [0b10111011] = .ok (.cp_E, []) := by decide

/-- R120 `00 sss 100`, H. -/
theorem test_encoding_inc : decode .two [0b00100100] = .ok (.inc_H, []) := by decide

/-- R130 `00 pp 1001`, SP. -/
theorem test_encoding_addHL : decode .two [0b00111001] = .ok (.add_HL_SP, []) := by decide

/-- R132 `00 pp 1011`, DE. -/
theorem test_encoding_dec16 : decode .two [0b00011011] = .ok (.dec_DE, []) := by decide

/-- R134 0xF8 e8. -/
theorem test_encoding_ldHLSP : decode .two [0b11111000, 0x80] = .ok (.ld_HL_SPe8 0x80, []) := by decide

/-- R149 `00 011 sss`, D. -/
theorem test_encoding_rr : decode .two [0xCB, 0b00011010] = .ok (.rr_D, []) := by decide

/-- R158 0xCB 0x3E. -/
theorem test_encoding_srl : decode .two [0xCB, 0b00111110] = .ok (.srl_atHL, []) := by decide

/-- R142 0x1F. -/
theorem test_encoding_rra : decode .two [0b00011111] = .ok (.rra, []) := by decide

/-- R159 `01 bbb sss`, 5, C. -/
theorem test_encoding_bit : decode .two [0xCB, 0b01101001] = .ok (.bit_5_C, []) := by decide

/-- R162 `10 bbb 110`, 3. -/
theorem test_encoding_res : decode .two [0xCB, 0b10011110] = .ok (.res_3_atHL, []) := by decide

/-- R163 `11 bbb sss`, 6, A. -/
theorem test_encoding_set : decode .two [0xCB, 0b11110111] = .ok (.set_6_A, []) := by decide

/-- R171 `110 cc 010` lo hi, NC. -/
theorem test_encoding_jpcc : decode .two [0b11010010, 0xCD, 0xAB] = .ok (.jp_NC_a16 0xABCD, []) := by decide

/-- R174 `001 cc 000` e8, C. -/
theorem test_encoding_jrcc : decode .two [0b00111000, 0xFB] = .ok (.jr_C_e8 0xFB, []) := by decide

/-- R176 `110 cc 100` lo hi, Z. -/
theorem test_encoding_callcc : decode .two [0b11001100, 0x34, 0x12] = .ok (.call_Z_a16 0x1234, []) := by decide

/-- R178 `110 cc 000`, NC. -/
theorem test_encoding_retcc : decode .two [0b11010000] = .ok (.ret_NC, []) := by decide

/-- R180 `11 ttt 111`, 5. -/
theorem test_encoding_rst : decode .two [0b11101111] = .ok (.rst_28, []) := by decide

/-- R181 `11 pp 0101`, AF. -/
theorem test_encoding_push : decode .two [0b11110101] = .ok (.push_AF, []) := by decide

/-- R182 `11 pp 0001`, HL. -/
theorem test_encoding_pop : decode .two [0b11100001] = .ok (.pop_HL, []) := by decide

/-- R185 `01 ddd sss`, D, H. -/
theorem test_encoding_ld : decode .two [0b01010100] = .ok (.ld_D_H, []) := by decide

/-- R186 `01 ddd 110`, E. -/
theorem test_encoding_ldFrom : decode .two [0b01011110] = .ok (.ld_E_atHL, []) := by decide

/-- R187 `01 110 sss`, C. -/
theorem test_encoding_ldTo : decode .two [0b01110001] = .ok (.ld_atHL_C, []) := by decide

/-- R188 `00 ddd 110` d8, L. -/
theorem test_encoding_ldImm : decode .two [0b00101110, 0x7F] = .ok (.ld_L_d8 0x7F, []) := by decide

/-- R195 0x32. -/
theorem test_encoding_storeA : decode .two [0b00110010] = .ok (.ld_atHLd_A, []) := by decide

/-- R193 0x1A. -/
theorem test_encoding_loadA : decode .two [0b00011010] = .ok (.ld_A_atDE, []) := by decide

/-- R204 `00 pp 0001` lo hi, DE. -/
theorem test_encoding_ld16 : decode .two [0b00010001, 0x34, 0x12] = .ok (.ld_DE_d16 0x1234, []) := by decide

/-- R201 0xF0 a8. -/
theorem test_encoding_ldh : decode .two [0b11110000, 0x44] = .ok (.ldh_A_atA8 0x44, []) := by decide

/-- R205 0x08 lo hi. -/
theorem test_encoding_storeSP : decode .two [0b00001000, 0x00, 0xC1] = .ok (.ld_atA16_SP 0xC100, []) := by decide

/-- R212 0x10 and one ignored byte. -/
theorem test_encoding_stop : decode .two [0b00010000, 0xFF] = .ok (.stop, []) := by decide

/-- R215 0xED. -/
theorem test_encoding_illegal : decode .two [0b11101101] = .ok (.illegal_ED, []) := by decide

/-- R212: with `STOP_LENGTH = 1` the next byte is left. -/
theorem test_encoding_stop_one : decode .one [0x10, 0xFF] = .ok (.stop, [0xFF]) := by decide

/-- R70: an instruction cut short is no instruction. -/
theorem test_truncated :
    decode .two [0xC3, 0x34] = .error .truncated ∧ decode .two [0xCB] = .error .truncated ∧
      decode .two [] = .error .truncated := by decide

/-- The encoder writes the immediate's low byte first (R80). -/
theorem test_encode_little_endian : encode .two (.call_a16 0x1234) = [0xCD, 0x34, 0x12] := by decide

/-! ### Decoding: the two opcode maps, row by row (R88, R89), operand bytes zero -/

/-- The primary page, row 0x. -/
theorem test_map_0x : [0x00, 0x01, 0x02, 0x03, 0x04, 0x05, 0x06, 0x07, 0x08, 0x09, 0x0A, 0x0B, 0x0C, 0x0D, 0x0E, 0x0F].map (decodeTableWord 8) =
    [.nop, (.ld_BC_d16 0), .ld_atBC_A, .inc_BC, .inc_B,
      .dec_B, (.ld_B_d8 0), .rlca, (.ld_atA16_SP 0), .add_HL_BC,
      .ld_A_atBC, .dec_BC, .inc_C, .dec_C, (.ld_C_d8 0),
      .rrca].map some := by decide

/-- The primary page, row 1x. -/
theorem test_map_1x : [0x10, 0x11, 0x12, 0x13, 0x14, 0x15, 0x16, 0x17, 0x18, 0x19, 0x1A, 0x1B, 0x1C, 0x1D, 0x1E, 0x1F].map (decodeTableWord 8) =
    [.stop, (.ld_DE_d16 0), .ld_atDE_A, .inc_DE, .inc_D,
      .dec_D, (.ld_D_d8 0), .rla, (.jr_e8 0), .add_HL_DE,
      .ld_A_atDE, .dec_DE, .inc_E, .dec_E, (.ld_E_d8 0),
      .rra].map some := by decide

/-- The primary page, row 2x. -/
theorem test_map_2x : [0x20, 0x21, 0x22, 0x23, 0x24, 0x25, 0x26, 0x27, 0x28, 0x29, 0x2A, 0x2B, 0x2C, 0x2D, 0x2E, 0x2F].map (decodeTableWord 8) =
    [(.jr_NZ_e8 0), (.ld_HL_d16 0), .ld_atHLi_A, .inc_HL, .inc_H,
      .dec_H, (.ld_H_d8 0), .daa, (.jr_Z_e8 0), .add_HL_HL,
      .ld_A_atHLi, .dec_HL, .inc_L, .dec_L, (.ld_L_d8 0),
      .cpl].map some := by decide

/-- The primary page, row 3x. -/
theorem test_map_3x : [0x30, 0x31, 0x32, 0x33, 0x34, 0x35, 0x36, 0x37, 0x38, 0x39, 0x3A, 0x3B, 0x3C, 0x3D, 0x3E, 0x3F].map (decodeTableWord 8) =
    [(.jr_NC_e8 0), (.ld_SP_d16 0), .ld_atHLd_A, .inc_SP, .inc_atHL,
      .dec_atHL, (.ld_atHL_d8 0), .scf, (.jr_C_e8 0), .add_HL_SP,
      .ld_A_atHLd, .dec_SP, .inc_A, .dec_A, (.ld_A_d8 0),
      .ccf].map some := by decide

/-- The primary page, row 4x. -/
theorem test_map_4x : [0x40, 0x41, 0x42, 0x43, 0x44, 0x45, 0x46, 0x47, 0x48, 0x49, 0x4A, 0x4B, 0x4C, 0x4D, 0x4E, 0x4F].map (decodeTableWord 8) =
    [.ld_B_B, .ld_B_C, .ld_B_D, .ld_B_E, .ld_B_H,
      .ld_B_L, .ld_B_atHL, .ld_B_A, .ld_C_B, .ld_C_C,
      .ld_C_D, .ld_C_E, .ld_C_H, .ld_C_L, .ld_C_atHL,
      .ld_C_A].map some := by decide

/-- The primary page, row 5x. -/
theorem test_map_5x : [0x50, 0x51, 0x52, 0x53, 0x54, 0x55, 0x56, 0x57, 0x58, 0x59, 0x5A, 0x5B, 0x5C, 0x5D, 0x5E, 0x5F].map (decodeTableWord 8) =
    [.ld_D_B, .ld_D_C, .ld_D_D, .ld_D_E, .ld_D_H,
      .ld_D_L, .ld_D_atHL, .ld_D_A, .ld_E_B, .ld_E_C,
      .ld_E_D, .ld_E_E, .ld_E_H, .ld_E_L, .ld_E_atHL,
      .ld_E_A].map some := by decide

/-- The primary page, row 6x. -/
theorem test_map_6x : [0x60, 0x61, 0x62, 0x63, 0x64, 0x65, 0x66, 0x67, 0x68, 0x69, 0x6A, 0x6B, 0x6C, 0x6D, 0x6E, 0x6F].map (decodeTableWord 8) =
    [.ld_H_B, .ld_H_C, .ld_H_D, .ld_H_E, .ld_H_H,
      .ld_H_L, .ld_H_atHL, .ld_H_A, .ld_L_B, .ld_L_C,
      .ld_L_D, .ld_L_E, .ld_L_H, .ld_L_L, .ld_L_atHL,
      .ld_L_A].map some := by decide

/-- The primary page, row 7x. -/
theorem test_map_7x : [0x70, 0x71, 0x72, 0x73, 0x74, 0x75, 0x76, 0x77, 0x78, 0x79, 0x7A, 0x7B, 0x7C, 0x7D, 0x7E, 0x7F].map (decodeTableWord 8) =
    [.ld_atHL_B, .ld_atHL_C, .ld_atHL_D, .ld_atHL_E, .ld_atHL_H,
      .ld_atHL_L, .halt, .ld_atHL_A, .ld_A_B, .ld_A_C,
      .ld_A_D, .ld_A_E, .ld_A_H, .ld_A_L, .ld_A_atHL,
      .ld_A_A].map some := by decide

/-- The primary page, row 8x. -/
theorem test_map_8x : [0x80, 0x81, 0x82, 0x83, 0x84, 0x85, 0x86, 0x87, 0x88, 0x89, 0x8A, 0x8B, 0x8C, 0x8D, 0x8E, 0x8F].map (decodeTableWord 8) =
    [.add_A_B, .add_A_C, .add_A_D, .add_A_E, .add_A_H,
      .add_A_L, .add_A_atHL, .add_A_A, .adc_A_B, .adc_A_C,
      .adc_A_D, .adc_A_E, .adc_A_H, .adc_A_L, .adc_A_atHL,
      .adc_A_A].map some := by decide

/-- The primary page, row 9x. -/
theorem test_map_9x : [0x90, 0x91, 0x92, 0x93, 0x94, 0x95, 0x96, 0x97, 0x98, 0x99, 0x9A, 0x9B, 0x9C, 0x9D, 0x9E, 0x9F].map (decodeTableWord 8) =
    [.sub_B, .sub_C, .sub_D, .sub_E, .sub_H,
      .sub_L, .sub_atHL, .sub_A, .sbc_A_B, .sbc_A_C,
      .sbc_A_D, .sbc_A_E, .sbc_A_H, .sbc_A_L, .sbc_A_atHL,
      .sbc_A_A].map some := by decide

/-- The primary page, row Ax. -/
theorem test_map_Ax : [0xA0, 0xA1, 0xA2, 0xA3, 0xA4, 0xA5, 0xA6, 0xA7, 0xA8, 0xA9, 0xAA, 0xAB, 0xAC, 0xAD, 0xAE, 0xAF].map (decodeTableWord 8) =
    [.and_B, .and_C, .and_D, .and_E, .and_H,
      .and_L, .and_atHL, .and_A, .xor_B, .xor_C,
      .xor_D, .xor_E, .xor_H, .xor_L, .xor_atHL,
      .xor_A].map some := by decide

/-- The primary page, row Bx. -/
theorem test_map_Bx : [0xB0, 0xB1, 0xB2, 0xB3, 0xB4, 0xB5, 0xB6, 0xB7, 0xB8, 0xB9, 0xBA, 0xBB, 0xBC, 0xBD, 0xBE, 0xBF].map (decodeTableWord 8) =
    [.or_B, .or_C, .or_D, .or_E, .or_H,
      .or_L, .or_atHL, .or_A, .cp_B, .cp_C,
      .cp_D, .cp_E, .cp_H, .cp_L, .cp_atHL,
      .cp_A].map some := by decide

/-- The primary page, row Cx (0xCB switches the page, R83). -/
theorem test_map_Cx : [0xC0, 0xC1, 0xC2, 0xC3, 0xC4, 0xC5, 0xC6, 0xC7, 0xC8, 0xC9, 0xCA, 0xCB, 0xCC, 0xCD, 0xCE, 0xCF].map (decodeTableWord 8) =
    [.ret_NZ, .pop_BC, (.jp_NZ_a16 0), (.jp_a16 0), (.call_NZ_a16 0),
      .push_BC, (.add_A_d8 0), .rst_00, .ret_Z, .ret,
      (.jp_Z_a16 0), .rlc_B, (.call_Z_a16 0), (.call_a16 0), (.adc_A_d8 0),
      .rst_08].map some := by decide

/-- The primary page, row Dx. -/
theorem test_map_Dx : [0xD0, 0xD1, 0xD2, 0xD3, 0xD4, 0xD5, 0xD6, 0xD7, 0xD8, 0xD9, 0xDA, 0xDB, 0xDC, 0xDD, 0xDE, 0xDF].map (decodeTableWord 8) =
    [.ret_NC, .pop_DE, (.jp_NC_a16 0), .illegal_D3, (.call_NC_a16 0),
      .push_DE, (.sub_d8 0), .rst_10, .ret_C, .reti,
      (.jp_C_a16 0), .illegal_DB, (.call_C_a16 0), .illegal_DD, (.sbc_A_d8 0),
      .rst_18].map some := by decide

/-- The primary page, row Ex. -/
theorem test_map_Ex : [0xE0, 0xE1, 0xE2, 0xE3, 0xE4, 0xE5, 0xE6, 0xE7, 0xE8, 0xE9, 0xEA, 0xEB, 0xEC, 0xED, 0xEE, 0xEF].map (decodeTableWord 8) =
    [(.ldh_atA8_A 0), .pop_HL, .ld_atC_A, .illegal_E3, .illegal_E4,
      .push_HL, (.and_d8 0), .rst_20, (.add_SP_e8 0), .jp_HL,
      (.ld_atA16_A 0), .illegal_EB, .illegal_EC, .illegal_ED, (.xor_d8 0),
      .rst_28].map some := by decide

/-- The primary page, row Fx. -/
theorem test_map_Fx : [0xF0, 0xF1, 0xF2, 0xF3, 0xF4, 0xF5, 0xF6, 0xF7, 0xF8, 0xF9, 0xFA, 0xFB, 0xFC, 0xFD, 0xFE, 0xFF].map (decodeTableWord 8) =
    [(.ldh_A_atA8 0), .pop_AF, .ld_A_atC, .di, .illegal_F4,
      .push_AF, (.or_d8 0), .rst_30, (.ld_HL_SPe8 0), .ld_SP_HL,
      (.ld_A_atA16 0), .ei, .illegal_FC, .illegal_FD, (.cp_d8 0),
      .rst_38].map some := by decide

/-- The CB page, row 0x. -/
theorem test_map_cb_0x : [0xCB00, 0xCB01, 0xCB02, 0xCB03, 0xCB04, 0xCB05, 0xCB06, 0xCB07, 0xCB08, 0xCB09, 0xCB0A, 0xCB0B, 0xCB0C, 0xCB0D, 0xCB0E, 0xCB0F].map (decodeTableWord 16) =
    [.rlc_B, .rlc_C, .rlc_D, .rlc_E, .rlc_H, .rlc_L,
      .rlc_atHL, .rlc_A, .rrc_B, .rrc_C, .rrc_D, .rrc_E,
      .rrc_H, .rrc_L, .rrc_atHL, .rrc_A].map some := by decide

/-- The CB page, row 1x. -/
theorem test_map_cb_1x : [0xCB10, 0xCB11, 0xCB12, 0xCB13, 0xCB14, 0xCB15, 0xCB16, 0xCB17, 0xCB18, 0xCB19, 0xCB1A, 0xCB1B, 0xCB1C, 0xCB1D, 0xCB1E, 0xCB1F].map (decodeTableWord 16) =
    [.rl_B, .rl_C, .rl_D, .rl_E, .rl_H, .rl_L,
      .rl_atHL, .rl_A, .rr_B, .rr_C, .rr_D, .rr_E,
      .rr_H, .rr_L, .rr_atHL, .rr_A].map some := by decide

/-- The CB page, row 2x. -/
theorem test_map_cb_2x : [0xCB20, 0xCB21, 0xCB22, 0xCB23, 0xCB24, 0xCB25, 0xCB26, 0xCB27, 0xCB28, 0xCB29, 0xCB2A, 0xCB2B, 0xCB2C, 0xCB2D, 0xCB2E, 0xCB2F].map (decodeTableWord 16) =
    [.sla_B, .sla_C, .sla_D, .sla_E, .sla_H, .sla_L,
      .sla_atHL, .sla_A, .sra_B, .sra_C, .sra_D, .sra_E,
      .sra_H, .sra_L, .sra_atHL, .sra_A].map some := by decide

/-- The CB page, row 3x. -/
theorem test_map_cb_3x : [0xCB30, 0xCB31, 0xCB32, 0xCB33, 0xCB34, 0xCB35, 0xCB36, 0xCB37, 0xCB38, 0xCB39, 0xCB3A, 0xCB3B, 0xCB3C, 0xCB3D, 0xCB3E, 0xCB3F].map (decodeTableWord 16) =
    [.swap_B, .swap_C, .swap_D, .swap_E, .swap_H, .swap_L,
      .swap_atHL, .swap_A, .srl_B, .srl_C, .srl_D, .srl_E,
      .srl_H, .srl_L, .srl_atHL, .srl_A].map some := by decide

/-- The CB page, row 4x. -/
theorem test_map_cb_4x : [0xCB40, 0xCB41, 0xCB42, 0xCB43, 0xCB44, 0xCB45, 0xCB46, 0xCB47, 0xCB48, 0xCB49, 0xCB4A, 0xCB4B, 0xCB4C, 0xCB4D, 0xCB4E, 0xCB4F].map (decodeTableWord 16) =
    [.bit_0_B, .bit_0_C, .bit_0_D, .bit_0_E, .bit_0_H, .bit_0_L,
      .bit_0_atHL, .bit_0_A, .bit_1_B, .bit_1_C, .bit_1_D, .bit_1_E,
      .bit_1_H, .bit_1_L, .bit_1_atHL, .bit_1_A].map some := by decide

/-- The CB page, row 5x. -/
theorem test_map_cb_5x : [0xCB50, 0xCB51, 0xCB52, 0xCB53, 0xCB54, 0xCB55, 0xCB56, 0xCB57, 0xCB58, 0xCB59, 0xCB5A, 0xCB5B, 0xCB5C, 0xCB5D, 0xCB5E, 0xCB5F].map (decodeTableWord 16) =
    [.bit_2_B, .bit_2_C, .bit_2_D, .bit_2_E, .bit_2_H, .bit_2_L,
      .bit_2_atHL, .bit_2_A, .bit_3_B, .bit_3_C, .bit_3_D, .bit_3_E,
      .bit_3_H, .bit_3_L, .bit_3_atHL, .bit_3_A].map some := by decide

/-- The CB page, row 6x. -/
theorem test_map_cb_6x : [0xCB60, 0xCB61, 0xCB62, 0xCB63, 0xCB64, 0xCB65, 0xCB66, 0xCB67, 0xCB68, 0xCB69, 0xCB6A, 0xCB6B, 0xCB6C, 0xCB6D, 0xCB6E, 0xCB6F].map (decodeTableWord 16) =
    [.bit_4_B, .bit_4_C, .bit_4_D, .bit_4_E, .bit_4_H, .bit_4_L,
      .bit_4_atHL, .bit_4_A, .bit_5_B, .bit_5_C, .bit_5_D, .bit_5_E,
      .bit_5_H, .bit_5_L, .bit_5_atHL, .bit_5_A].map some := by decide

/-- The CB page, row 7x. -/
theorem test_map_cb_7x : [0xCB70, 0xCB71, 0xCB72, 0xCB73, 0xCB74, 0xCB75, 0xCB76, 0xCB77, 0xCB78, 0xCB79, 0xCB7A, 0xCB7B, 0xCB7C, 0xCB7D, 0xCB7E, 0xCB7F].map (decodeTableWord 16) =
    [.bit_6_B, .bit_6_C, .bit_6_D, .bit_6_E, .bit_6_H, .bit_6_L,
      .bit_6_atHL, .bit_6_A, .bit_7_B, .bit_7_C, .bit_7_D, .bit_7_E,
      .bit_7_H, .bit_7_L, .bit_7_atHL, .bit_7_A].map some := by decide

/-- The CB page, row 8x. -/
theorem test_map_cb_8x : [0xCB80, 0xCB81, 0xCB82, 0xCB83, 0xCB84, 0xCB85, 0xCB86, 0xCB87, 0xCB88, 0xCB89, 0xCB8A, 0xCB8B, 0xCB8C, 0xCB8D, 0xCB8E, 0xCB8F].map (decodeTableWord 16) =
    [.res_0_B, .res_0_C, .res_0_D, .res_0_E, .res_0_H, .res_0_L,
      .res_0_atHL, .res_0_A, .res_1_B, .res_1_C, .res_1_D, .res_1_E,
      .res_1_H, .res_1_L, .res_1_atHL, .res_1_A].map some := by decide

/-- The CB page, row 9x. -/
theorem test_map_cb_9x : [0xCB90, 0xCB91, 0xCB92, 0xCB93, 0xCB94, 0xCB95, 0xCB96, 0xCB97, 0xCB98, 0xCB99, 0xCB9A, 0xCB9B, 0xCB9C, 0xCB9D, 0xCB9E, 0xCB9F].map (decodeTableWord 16) =
    [.res_2_B, .res_2_C, .res_2_D, .res_2_E, .res_2_H, .res_2_L,
      .res_2_atHL, .res_2_A, .res_3_B, .res_3_C, .res_3_D, .res_3_E,
      .res_3_H, .res_3_L, .res_3_atHL, .res_3_A].map some := by decide

/-- The CB page, row Ax. -/
theorem test_map_cb_Ax : [0xCBA0, 0xCBA1, 0xCBA2, 0xCBA3, 0xCBA4, 0xCBA5, 0xCBA6, 0xCBA7, 0xCBA8, 0xCBA9, 0xCBAA, 0xCBAB, 0xCBAC, 0xCBAD, 0xCBAE, 0xCBAF].map (decodeTableWord 16) =
    [.res_4_B, .res_4_C, .res_4_D, .res_4_E, .res_4_H, .res_4_L,
      .res_4_atHL, .res_4_A, .res_5_B, .res_5_C, .res_5_D, .res_5_E,
      .res_5_H, .res_5_L, .res_5_atHL, .res_5_A].map some := by decide

/-- The CB page, row Bx. -/
theorem test_map_cb_Bx : [0xCBB0, 0xCBB1, 0xCBB2, 0xCBB3, 0xCBB4, 0xCBB5, 0xCBB6, 0xCBB7, 0xCBB8, 0xCBB9, 0xCBBA, 0xCBBB, 0xCBBC, 0xCBBD, 0xCBBE, 0xCBBF].map (decodeTableWord 16) =
    [.res_6_B, .res_6_C, .res_6_D, .res_6_E, .res_6_H, .res_6_L,
      .res_6_atHL, .res_6_A, .res_7_B, .res_7_C, .res_7_D, .res_7_E,
      .res_7_H, .res_7_L, .res_7_atHL, .res_7_A].map some := by decide

/-- The CB page, row Cx. -/
theorem test_map_cb_Cx : [0xCBC0, 0xCBC1, 0xCBC2, 0xCBC3, 0xCBC4, 0xCBC5, 0xCBC6, 0xCBC7, 0xCBC8, 0xCBC9, 0xCBCA, 0xCBCB, 0xCBCC, 0xCBCD, 0xCBCE, 0xCBCF].map (decodeTableWord 16) =
    [.set_0_B, .set_0_C, .set_0_D, .set_0_E, .set_0_H, .set_0_L,
      .set_0_atHL, .set_0_A, .set_1_B, .set_1_C, .set_1_D, .set_1_E,
      .set_1_H, .set_1_L, .set_1_atHL, .set_1_A].map some := by decide

/-- The CB page, row Dx. -/
theorem test_map_cb_Dx : [0xCBD0, 0xCBD1, 0xCBD2, 0xCBD3, 0xCBD4, 0xCBD5, 0xCBD6, 0xCBD7, 0xCBD8, 0xCBD9, 0xCBDA, 0xCBDB, 0xCBDC, 0xCBDD, 0xCBDE, 0xCBDF].map (decodeTableWord 16) =
    [.set_2_B, .set_2_C, .set_2_D, .set_2_E, .set_2_H, .set_2_L,
      .set_2_atHL, .set_2_A, .set_3_B, .set_3_C, .set_3_D, .set_3_E,
      .set_3_H, .set_3_L, .set_3_atHL, .set_3_A].map some := by decide

/-- The CB page, row Ex. -/
theorem test_map_cb_Ex : [0xCBE0, 0xCBE1, 0xCBE2, 0xCBE3, 0xCBE4, 0xCBE5, 0xCBE6, 0xCBE7, 0xCBE8, 0xCBE9, 0xCBEA, 0xCBEB, 0xCBEC, 0xCBED, 0xCBEE, 0xCBEF].map (decodeTableWord 16) =
    [.set_4_B, .set_4_C, .set_4_D, .set_4_E, .set_4_H, .set_4_L,
      .set_4_atHL, .set_4_A, .set_5_B, .set_5_C, .set_5_D, .set_5_E,
      .set_5_H, .set_5_L, .set_5_atHL, .set_5_A].map some := by decide

/-- The CB page, row Fx. -/
theorem test_map_cb_Fx : [0xCBF0, 0xCBF1, 0xCBF2, 0xCBF3, 0xCBF4, 0xCBF5, 0xCBF6, 0xCBF7, 0xCBF8, 0xCBF9, 0xCBFA, 0xCBFB, 0xCBFC, 0xCBFD, 0xCBFE, 0xCBFF].map (decodeTableWord 16) =
    [.set_6_B, .set_6_C, .set_6_D, .set_6_E, .set_6_H, .set_6_L,
      .set_6_atHL, .set_6_A, .set_7_B, .set_7_C, .set_7_D, .set_7_E,
      .set_7_H, .set_7_L, .set_7_atHL, .set_7_A].map some := by decide

/-! ### One step of an instruction: the vectors of 95_test_vectors.md section 3 -/

/-- V1: carry out, result 0, H set. -/
theorem test_V1_add_A_B :
    (after (placed 0x0100 [0x80] [] { zeroed with a := 0x3A, b := 0xC6, f := 0x00 }) |> fun (t : State) =>
      (t.a, t.f, t.pc, t.fine)) = (0x00, 0xB0, 0x0101, 1) := by decide

/-- V2: half carry only. -/
theorem test_V2_add_A_B :
    (after (placed 0x0100 [0x80] [] { zeroed with a := 0x0F, b := 0x01, f := 0x00 }) |> fun (t : State) =>
      (t.a, t.f, t.pc, t.fine)) = (0x10, 0x20, 0x0101, 1) := by decide

/-- V4: ADD A,A: same register, 0x80+0x80. -/
theorem test_V4_add_A_A :
    (after (placed 0x0100 [0x87] [] { zeroed with a := 0x80, f := 0x00 }) |> fun (t : State) =>
      (t.a, t.f, t.pc, t.fine)) = (0x00, 0x90, 0x0101, 1) := by decide

/-- V5: (HL) operand. -/
theorem test_V5_add_A_atHL :
    (after (placed 0x0100 [0x86] [(0xC000, 0x34)] { zeroed with a := 0x12, h := 0xC0, l := 0x00, f := 0x00 }) |> fun (t : State) =>
      (t.a, t.f, t.pc, t.fine)) = (0x46, 0x00, 0x0101, 2) := by decide

/-- V6: immediate, wrap to 0. -/
theorem test_V6_add_A_d8 :
    (after (placed 0x0100 [0xC6, 0xFF] [] { zeroed with a := 0x01, f := 0x00 }) |> fun (t : State) =>
      (t.a, t.f, t.pc, t.fine)) = (0x00, 0xB0, 0x0102, 2) := by decide

/-- V7: ADC with carry-in, half carry from cin. -/
theorem test_V7_adc_A_B :
    (after (placed 0x0100 [0x88] [] { zeroed with a := 0xE1, b := 0x0F, f := 0x10 }) |> fun (t : State) =>
      (t.a, t.f, t.pc, t.fine)) = (0xF1, 0x20, 0x0101, 1) := by decide

/-- V8: ADC 0xFF+0+1: the >= bound. -/
theorem test_V8_adc_A_C :
    (after (placed 0x0100 [0x89] [] { zeroed with a := 0xFF, c := 0x00, f := 0x10 }) |> fun (t : State) =>
      (t.a, t.f, t.pc, t.fine)) = (0x00, 0xB0, 0x0101, 1) := by decide

/-- V9: ADC 0xFE+0+1: no carry. -/
theorem test_V9_adc_A_C :
    (after (placed 0x0100 [0x89] [] { zeroed with a := 0xFE, c := 0x00, f := 0x10 }) |> fun (t : State) =>
      (t.a, t.f, t.pc, t.fine)) = (0xFF, 0x00, 0x0101, 1) := by decide

/-- V10: ADC without carry-in. -/
theorem test_V10_adc_A_d8 :
    (after (placed 0x0100 [0xCE, 0x0F] [] { zeroed with a := 0x00, f := 0x00 }) |> fun (t : State) =>
      (t.a, t.f, t.pc, t.fine)) = (0x0F, 0x00, 0x0102, 2) := by decide

/-- V12: half borrow. -/
theorem test_V12_sub_B :
    (after (placed 0x0100 [0x90] [] { zeroed with a := 0x3E, b := 0x0F, f := 0x00 }) |> fun (t : State) =>
      (t.a, t.f, t.pc, t.fine)) = (0x2F, 0x60, 0x0101, 1) := by decide

/-- V13: full borrow. -/
theorem test_V13_sub_B :
    (after (placed 0x0100 [0x90] [] { zeroed with a := 0x3E, b := 0x40, f := 0x00 }) |> fun (t : State) =>
      (t.a, t.f, t.pc, t.fine)) = (0xFE, 0x50, 0x0101, 1) := by decide

/-- V14: SUB A: 0, C cleared even if set before. -/
theorem test_V14_sub_A :
    (after (placed 0x0100 [0x97] [] { zeroed with a := 0x5A, f := 0x10 }) |> fun (t : State) =>
      (t.a, t.f, t.pc, t.fine)) = (0x00, 0xC0, 0x0101, 1) := by decide

/-- V15: 0 - 1 wraps, H and C set. -/
theorem test_V15_sub_d8 :
    (after (placed 0x0100 [0xD6, 0x01] [] { zeroed with a := 0x00, f := 0x00 }) |> fun (t : State) =>
      (t.a, t.f, t.pc, t.fine)) = (0xFF, 0x70, 0x0102, 2) := by decide

/-- V17: SBC 0x10-0x0F-1 = 0. -/
theorem test_V17_sbc_A_B :
    (after (placed 0x0100 [0x98] [] { zeroed with a := 0x10, b := 0x0F, f := 0x10 }) |> fun (t : State) =>
      (t.a, t.f, t.pc, t.fine)) = (0x00, 0xE0, 0x0101, 1) := by decide

/-- V18: SBC 0-0xFF-1 = 0, C set. -/
theorem test_V18_sbc_A_B :
    (after (placed 0x0100 [0x98] [] { zeroed with a := 0x00, b := 0xFF, f := 0x10 }) |> fun (t : State) =>
      (t.f, t.pc, t.fine)) = (0xF0, 0x0101, 1) := by decide

/-- V19: SBC 0-0-1, borrow in only. -/
theorem test_V19_sbc_A_d8 :
    (after (placed 0x0100 [0xDE, 0x00] [] { zeroed with a := 0x00, f := 0x10 }) |> fun (t : State) =>
      (t.a, t.f, t.pc, t.fine)) = (0xFF, 0x70, 0x0102, 2) := by decide

/-- V20: CP: A unchanged. -/
theorem test_V20_cp_B :
    (after (placed 0x0100 [0xB8] [] { zeroed with a := 0x3C, b := 0x2F, f := 0x00 }) |> fun (t : State) =>
      (t.f, t.pc, t.fine)) = (0x60, 0x0101, 1) := by decide

/-- V21: CP equal. -/
theorem test_V21_cp_d8 :
    (after (placed 0x0100 [0xFE, 0x3C] [] { zeroed with a := 0x3C, f := 0x00 }) |> fun (t : State) =>
      (t.f, t.pc, t.fine)) = (0xC0, 0x0102, 2) := by decide

/-- V22: CP (HL) less. -/
theorem test_V22_cp_atHL :
    (after (placed 0x0100 [0xBE] [(0xC000, 0x40)] { zeroed with a := 0x3C, h := 0xC0, l := 0x00, f := 0x00 }) |> fun (t : State) =>
      (t.f, t.pc, t.fine)) = (0x50, 0x0101, 2) := by decide

/-- V23: AND: H set, N C cleared. -/
theorem test_V23_and_B :
    (after (placed 0x0100 [0xA0] [] { zeroed with a := 0x5A, b := 0x3F, f := 0x50 }) |> fun (t : State) =>
      (t.a, t.f, t.pc, t.fine)) = (0x1A, 0x20, 0x0101, 1) := by decide

/-- V24: AND 0: Z. -/
theorem test_V24_and_d8 :
    (after (placed 0x0100 [0xE6, 0x00] [] { zeroed with a := 0xFF, f := 0x00 }) |> fun (t : State) =>
      (t.a, t.f, t.pc, t.fine)) = (0x00, 0xA0, 0x0102, 2) := by decide

/-- V25: XOR A: zero, all else cleared. -/
theorem test_V25_xor_A :
    (after (placed 0x0100 [0xAF] [] { zeroed with a := 0xA5, f := 0x70 }) |> fun (t : State) =>
      (t.a, t.f, t.pc, t.fine)) = (0x00, 0x80, 0x0101, 1) := by decide

/-- V26: XOR immediate. -/
theorem test_V26_xor_d8 :
    (after (placed 0x0100 [0xEE, 0x0F] [] { zeroed with a := 0xF0, f := 0x00 }) |> fun (t : State) =>
      (t.a, t.f, t.pc, t.fine)) = (0xFF, 0x00, 0x0102, 2) := by decide

/-- V27: OR: zero. -/
theorem test_V27_or_C :
    (after (placed 0x0100 [0xB1] [] { zeroed with a := 0x00, c := 0x00, f := 0x70 }) |> fun (t : State) =>
      (t.f, t.pc, t.fine)) = (0x80, 0x0101, 1) := by decide

/-- V28: OR (HL). -/
theorem test_V28_or_atHL :
    (after (placed 0x0100 [0xB6] [(0xC000, 0xF0)] { zeroed with a := 0x0F, h := 0xC0, l := 0x00, f := 0x00 }) |> fun (t : State) =>
      (t.a, t.f, t.pc, t.fine)) = (0xFF, 0x00, 0x0101, 2) := by decide

/-- V29: INC wraps to 0, C kept. -/
theorem test_V29_inc_A :
    (after (placed 0x0100 [0x3C] [] { zeroed with a := 0xFF, f := 0x10 }) |> fun (t : State) =>
      (t.a, t.f, t.pc, t.fine)) = (0x00, 0xB0, 0x0101, 1) := by decide

/-- V30: INC half carry. -/
theorem test_V30_inc_B :
    (after (placed 0x0100 [0x04] [] { zeroed with b := 0x0F, f := 0x00 }) |> fun (t : State) =>
      (t.b, t.f, t.pc, t.fine)) = (0x10, 0x20, 0x0101, 1) := by decide

/-- V31: INC plain, C kept set. -/
theorem test_V31_inc_C :
    (after (placed 0x0100 [0x0C] [] { zeroed with c := 0x50, f := 0x10 }) |> fun (t : State) =>
      (t.c, t.f, t.pc, t.fine)) = (0x51, 0x10, 0x0101, 1) := by decide

/-- V32: INC (HL). -/
theorem test_V32_inc_atHL :
    (after (placed 0x0100 [0x34] [(0xC000, 0x7F)] { zeroed with h := 0xC0, l := 0x00, f := 0x00 }) |> fun (t : State) =>
      (t.f, t.pc, t.mem.read 0xC000, t.fine)) = (0x20, 0x0101, 0x80, 3) := by decide

/-- V33: DEC to 0. -/
theorem test_V33_dec_B :
    (after (placed 0x0100 [0x05] [] { zeroed with b := 0x01, f := 0x00 }) |> fun (t : State) =>
      (t.b, t.f, t.pc, t.fine)) = (0x00, 0xC0, 0x0101, 1) := by decide

/-- V34: DEC wraps to 0xFF, half borrow. -/
theorem test_V34_dec_C :
    (after (placed 0x0100 [0x0D] [] { zeroed with c := 0x00, f := 0x00 }) |> fun (t : State) =>
      (t.c, t.f, t.pc, t.fine)) = (0xFF, 0x60, 0x0101, 1) := by decide

/-- V35: DEC half borrow, C kept. -/
theorem test_V35_dec_D :
    (after (placed 0x0100 [0x15] [] { zeroed with d := 0x10, f := 0x10 }) |> fun (t : State) =>
      (t.d, t.f, t.pc, t.fine)) = (0x0F, 0x70, 0x0101, 1) := by decide

/-- V36: DEC (HL) to 0. -/
theorem test_V36_dec_atHL :
    (after (placed 0x0100 [0x35] [(0xC000, 0x01)] { zeroed with h := 0xC0, l := 0x00, f := 0x00 }) |> fun (t : State) =>
      (t.f, t.pc, t.mem.read 0xC000, t.fine)) = (0xC0, 0x0101, 0x00, 3) := by decide

/-- V38: after an add giving 0x9A. -/
theorem test_V38_daa :
    (after (placed 0x0100 [0x27] [] { zeroed with a := 0x9A, f := 0x00 }) |> fun (t : State) =>
      (t.a, t.f, t.pc, t.fine)) = (0x00, 0x90, 0x0101, 1) := by decide

/-- V43: after a subtract with borrow (0x10-0x20). -/
theorem test_V43_daa :
    (after (placed 0x0100 [0x27] [] { zeroed with a := 0xF0, f := 0x50 }) |> fun (t : State) =>
      (t.a, t.f, t.pc, t.fine)) = (0x90, 0x50, 0x0101, 1) := by decide

/-- V45: CPL. -/
theorem test_V45_cpl :
    (after (placed 0x0100 [0x2F] [] { zeroed with a := 0x35, f := 0x00 }) |> fun (t : State) =>
      (t.a, t.f, t.pc, t.fine)) = (0xCA, 0x60, 0x0101, 1) := by decide

/-- V46: SCF. -/
theorem test_V46_scf :
    (after (placed 0x0100 [0x37] [] { zeroed with f := 0xE0 }) |> fun (t : State) =>
      (t.f, t.pc, t.fine)) = (0x90, 0x0101, 1) := by decide

/-- V47: CCF clears C. -/
theorem test_V47_ccf :
    (after (placed 0x0100 [0x3F] [] { zeroed with f := 0x10 }) |> fun (t : State) =>
      (t.f, t.pc, t.fine)) = (0x00, 0x0101, 1) := by decide

/-- V48: CCF sets C, Z kept. -/
theorem test_V48_ccf :
    (after (placed 0x0100 [0x3F] [] { zeroed with f := 0x80 }) |> fun (t : State) =>
      (t.f, t.pc, t.fine)) = (0x90, 0x0101, 1) := by decide

/-- V49: ADD HL,BC: H from bit 11, Z kept. -/
theorem test_V49_add_HL_BC :
    (after (placed 0x0100 [0x09] [] { zeroed with h := 0x8A, l := 0x23, b := 0x06, c := 0x05, f := 0x80 }) |> fun (t : State) =>
      (t.h, t.l, t.f, t.pc, t.fine)) = (0x90, 0x28, 0xA0, 0x0101, 2) := by decide

/-- V50: ADD HL,HL: carry and half carry. -/
theorem test_V50_add_HL_HL :
    (after (placed 0x0100 [0x29] [] { zeroed with h := 0x8A, l := 0x23, f := 0x00 }) |> fun (t : State) =>
      (t.h, t.l, t.f, t.pc, t.fine)) = (0x14, 0x46, 0x30, 0x0101, 2) := by decide

/-- V51: ADD HL,SP wraps to 0, Z not set. -/
theorem test_V51_add_HL_SP :
    (after (placed 0x0100 [0x39] [] { zeroed with h := 0xFF, l := 0xFF, sp := 0x0001, f := 0x40 }) |> fun (t : State) =>
      (t.h, t.l, t.f, t.pc, t.fine)) = (0x00, 0x00, 0x30, 0x0101, 2) := by decide

/-- V52: INC BC wraps, no flags. -/
theorem test_V52_inc_BC :
    (after (placed 0x0100 [0x03] [] { zeroed with b := 0xFF, c := 0xFF, f := 0xF0 }) |> fun (t : State) =>
      (t.b, t.c, t.f, t.pc, t.fine)) = (0x00, 0x00, 0xF0, 0x0101, 2) := by decide

/-- V53: DEC DE wraps, no flags. -/
theorem test_V53_dec_DE :
    (after (placed 0x0100 [0x1B] [] { zeroed with d := 0x00, e := 0x00, f := 0x00 }) |> fun (t : State) =>
      (t.d, t.e, t.f, t.pc, t.fine)) = (0xFF, 0xFF, 0x00, 0x0101, 2) := by decide

/-- V54: INC SP wraps. -/
theorem test_V54_inc_SP :
    (after (placed 0x0100 [0x33] [] { zeroed with sp := 0xFFFF }) |> fun (t : State) =>
      (t.f, t.sp, t.pc, t.fine)) = (0x00, 0x0000, 0x0101, 2) := by decide

/-- V56: ADD SP,-1: H and C from the low byte. -/
theorem test_V56_add_SP_e8 :
    (after (placed 0x0100 [0xE8, 0xFF] [] { zeroed with sp := 0x0001, f := 0x00 }) |> fun (t : State) =>
      (t.f, t.sp, t.pc, t.fine)) = (0x30, 0x0000, 0x0102, 4) := by decide

/-- V57: ADD SP,8: low-byte carry, SP wraps. -/
theorem test_V57_add_SP_e8 :
    (after (placed 0x0100 [0xE8, 0x08] [] { zeroed with sp := 0xFFF8, f := 0x00 }) |> fun (t : State) =>
      (t.f, t.sp, t.pc, t.fine)) = (0x30, 0x0000, 0x0102, 4) := by decide

/-- V58: LD HL,SP+0: all flags 0. -/
theorem test_V58_ld_HL_SPe8 :
    (after (placed 0x0100 [0xF8, 0x00] [] { zeroed with sp := 0xD00F, f := 0xF0 }) |> fun (t : State) =>
      (t.h, t.l, t.f, t.pc, t.fine)) = (0xD0, 0x0F, 0x00, 0x0102, 3) := by decide

/-- V59: LD HL,SP+1: H and C. -/
theorem test_V59_ld_HL_SPe8 :
    (after (placed 0x0100 [0xF8, 0x01] [] { zeroed with sp := 0x00FF, f := 0x00 }) |> fun (t : State) =>
      (t.h, t.f, t.pc, t.fine)) = (0x01, 0x30, 0x0102, 3) := by decide

/-- V61: RLCA. -/
theorem test_V61_rlca :
    (after (placed 0x0100 [0x07] [] { zeroed with a := 0x85, f := 0x00 }) |> fun (t : State) =>
      (t.a, t.f, t.pc, t.fine)) = (0x0B, 0x10, 0x0101, 1) := by decide

/-- V62: RLCA of 0: Z forced 0. -/
theorem test_V62_rlca :
    (after (placed 0x0100 [0x07] [] { zeroed with a := 0x00, f := 0x80 }) |> fun (t : State) =>
      (t.f, t.pc, t.fine)) = (0x00, 0x0101, 1) := by decide

/-- V63: RRCA. -/
theorem test_V63_rrca :
    (after (placed 0x0100 [0x0F] [] { zeroed with a := 0x01, f := 0x00 }) |> fun (t : State) =>
      (t.a, t.f, t.pc, t.fine)) = (0x80, 0x10, 0x0101, 1) := by decide

/-- V64: RLA: result 0, Z still 0. -/
theorem test_V64_rla :
    (after (placed 0x0100 [0x17] [] { zeroed with a := 0x80, f := 0x00 }) |> fun (t : State) =>
      (t.a, t.f, t.pc, t.fine)) = (0x00, 0x10, 0x0101, 1) := by decide

/-- V65: RRA with carry in. -/
theorem test_V65_rra :
    (after (placed 0x0100 [0x1F] [] { zeroed with a := 0x01, f := 0x10 }) |> fun (t : State) =>
      (t.a, t.f, t.pc, t.fine)) = (0x80, 0x10, 0x0101, 1) := by decide

/-- V66: RLC B (the source example). -/
theorem test_V66_rlc_B :
    (after (placed 0x0100 [0xCB, 0x00] [] { zeroed with b := 0x81, f := 0x00 }) |> fun (t : State) =>
      (t.b, t.f, t.pc, t.fine)) = (0x03, 0x10, 0x0102, 2) := by decide

/-- V67: RLC C of 0: Z set, C cleared. -/
theorem test_V67_rlc_C :
    (after (placed 0x0100 [0xCB, 0x01] [] { zeroed with c := 0x00, f := 0x10 }) |> fun (t : State) =>
      (t.f, t.pc, t.fine)) = (0x80, 0x0102, 2) := by decide

/-- V68: RRC D. -/
theorem test_V68_rrc_D :
    (after (placed 0x0100 [0xCB, 0x0A] [] { zeroed with d := 0x01, f := 0x00 }) |> fun (t : State) =>
      (t.d, t.f, t.pc, t.fine)) = (0x80, 0x10, 0x0102, 2) := by decide

/-- V69: RL E, C=0 (the source example). -/
theorem test_V69_rl_E :
    (after (placed 0x0100 [0xCB, 0x13] [] { zeroed with e := 0x81, f := 0x00 }) |> fun (t : State) =>
      (t.e, t.f, t.pc, t.fine)) = (0x02, 0x10, 0x0102, 2) := by decide

/-- V70: RL H to 0: Z set. -/
theorem test_V70_rl_H :
    (after (placed 0x0100 [0xCB, 0x14] [] { zeroed with h := 0x80, f := 0x00 }) |> fun (t : State) =>
      (t.h, t.f, t.pc, t.fine)) = (0x00, 0x90, 0x0102, 2) := by decide

/-- V71: RR L with carry in. -/
theorem test_V71_rr_L :
    (after (placed 0x0100 [0xCB, 0x1D] [] { zeroed with l := 0x01, f := 0x10 }) |> fun (t : State) =>
      (t.l, t.f, t.pc, t.fine)) = (0x80, 0x10, 0x0102, 2) := by decide

/-- V72: RR (HL). -/
theorem test_V72_rr_atHL :
    (after (placed 0x0100 [0xCB, 0x1E] [(0xC000, 0x01)] { zeroed with h := 0xC0, l := 0x00, f := 0x00 }) |> fun (t : State) =>
      (t.f, t.pc, t.mem.read 0xC000, t.fine)) = (0x90, 0x0102, 0x00, 4) := by decide

/-- V73: SLA A to 0. -/
theorem test_V73_sla_A :
    (after (placed 0x0100 [0xCB, 0x27] [] { zeroed with a := 0x80, f := 0x00 }) |> fun (t : State) =>
      (t.a, t.f, t.pc, t.fine)) = (0x00, 0x90, 0x0102, 2) := by decide

/-- V74: SRA A keeps bit 7. -/
theorem test_V74_sra_A :
    (after (placed 0x0100 [0xCB, 0x2F] [] { zeroed with a := 0x81, f := 0x00 }) |> fun (t : State) =>
      (t.a, t.f, t.pc, t.fine)) = (0xC0, 0x10, 0x0102, 2) := by decide

/-- V75: SRA B to 0. -/
theorem test_V75_sra_B :
    (after (placed 0x0100 [0xCB, 0x28] [] { zeroed with b := 0x01, f := 0x00 }) |> fun (t : State) =>
      (t.b, t.f, t.pc, t.fine)) = (0x00, 0x90, 0x0102, 2) := by decide

/-- V76: SWAP 0: Z, C cleared. -/
theorem test_V76_swap_A :
    (after (placed 0x0100 [0xCB, 0x37] [] { zeroed with a := 0x00, f := 0x70 }) |> fun (t : State) =>
      (t.f, t.pc, t.fine)) = (0x80, 0x0102, 2) := by decide

/-- V77: SWAP B: C cleared. -/
theorem test_V77_swap_B :
    (after (placed 0x0100 [0xCB, 0x30] [] { zeroed with b := 0x12, f := 0x10 }) |> fun (t : State) =>
      (t.b, t.f, t.pc, t.fine)) = (0x21, 0x00, 0x0102, 2) := by decide

/-- V78: SRL A to 0. -/
theorem test_V78_srl_A :
    (after (placed 0x0100 [0xCB, 0x3F] [] { zeroed with a := 0x01, f := 0x00 }) |> fun (t : State) =>
      (t.a, t.f, t.pc, t.fine)) = (0x00, 0x90, 0x0102, 2) := by decide

/-- V79: SRL (HL). -/
theorem test_V79_srl_atHL :
    (after (placed 0x0100 [0xCB, 0x3E] [(0xC000, 0xFF)] { zeroed with h := 0xC0, l := 0x00, f := 0x00 }) |> fun (t : State) =>
      (t.f, t.pc, t.mem.read 0xC000, t.fine)) = (0x10, 0x0102, 0x7F, 4) := by decide

/-- V80: BIT 7,H set: Z=0, C kept. -/
theorem test_V80_bit_7_H :
    (after (placed 0x0100 [0xCB, 0x7C] [] { zeroed with h := 0x80, f := 0x10 }) |> fun (t : State) =>
      (t.f, t.pc, t.fine)) = (0x30, 0x0102, 2) := by decide

/-- V81: BIT 0,A clear: Z=1. -/
theorem test_V81_bit_0_A :
    (after (placed 0x0100 [0xCB, 0x47] [] { zeroed with a := 0xFE, f := 0x00 }) |> fun (t : State) =>
      (t.f, t.pc, t.fine)) = (0xA0, 0x0102, 2) := by decide

/-- V82: BIT 0,(HL): no write. -/
theorem test_V82_bit_0_atHL :
    (after (placed 0x0100 [0xCB, 0x46] [(0xC000, 0x00)] { zeroed with h := 0xC0, l := 0x00, f := 0x10 }) |> fun (t : State) =>
      (t.f, t.pc, t.fine)) = (0xB0, 0x0102, 3) := by decide

/-- V83: RES 0,A: F kept. -/
theorem test_V83_res_0_A :
    (after (placed 0x0100 [0xCB, 0x87] [] { zeroed with a := 0xFF, f := 0xF0 }) |> fun (t : State) =>
      (t.a, t.f, t.pc, t.fine)) = (0xFE, 0xF0, 0x0102, 2) := by decide

/-- V84: RES 7,(HL). -/
theorem test_V84_res_7_atHL :
    (after (placed 0x0100 [0xCB, 0xBE] [(0xC000, 0x80)] { zeroed with h := 0xC0, l := 0x00, f := 0x00 }) |> fun (t : State) =>
      (t.f, t.pc, t.mem.read 0xC000, t.fine)) = (0x00, 0x0102, 0x00, 4) := by decide

/-- V85: SET 0,B. -/
theorem test_V85_set_0_B :
    (after (placed 0x0100 [0xCB, 0xC0] [] { zeroed with b := 0x00, f := 0x00 }) |> fun (t : State) =>
      (t.b, t.f, t.pc, t.fine)) = (0x01, 0x00, 0x0102, 2) := by decide

/-- V86: SET 7,(HL) already set: written again. -/
theorem test_V86_set_7_atHL :
    (after (placed 0x0100 [0xCB, 0xFE] [(0xC000, 0xFF)] { zeroed with h := 0xC0, l := 0x00, f := 0x00 }) |> fun (t : State) =>
      (t.f, t.pc, t.mem.read 0xC000, t.fine)) = (0x00, 0x0102, 0xFF, 4) := by decide

/-- V87: JP a16. -/
theorem test_V87_jp_a16 :
    (after (placed 0x0100 [0xC3, 0x34, 0x12] [] zeroed) |> fun (t : State) =>
      (t.f, t.pc, t.fine)) = (0x00, 0x1234, 4) := by decide

/-- V88: JP NZ not taken (Z=1). -/
theorem test_V88_jp_NZ_a16 :
    (after (placed 0x0100 [0xC2, 0x34, 0x12] [] { zeroed with f := 0x80 }) |> fun (t : State) =>
      (t.f, t.pc, t.fine)) = (0x80, 0x0103, 3) := by decide

/-- V89: JP Z taken. -/
theorem test_V89_jp_Z_a16 :
    (after (placed 0x0100 [0xCA, 0x34, 0x12] [] { zeroed with f := 0x80 }) |> fun (t : State) =>
      (t.f, t.pc, t.fine)) = (0x80, 0x1234, 4) := by decide

/-- V90: JP HL. -/
theorem test_V90_jp_HL :
    (after (placed 0x0100 [0xE9] [] { zeroed with h := 0x80, l := 0x00 }) |> fun (t : State) =>
      (t.f, t.pc, t.fine)) = (0x00, 0x8000, 1) := by decide

/-- V93: JR -128. -/
theorem test_V93_jr_e8 :
    (after (placed 0x0100 [0x18, 0x80] [] zeroed) |> fun (t : State) =>
      (t.f, t.pc, t.fine)) = (0x00, 0x0082, 3) := by decide

/-- V94: JR wraps past 0xFFFF. -/
theorem test_V94_jr_e8 :
    (after (placed 0xFFF0 [0x18, 0x10] [] zeroed) |> fun (t : State) =>
      (t.f, t.pc, t.fine)) = (0x00, 0x0002, 3) := by decide

/-- V95: JR NZ taken. -/
theorem test_V95_jr_NZ_e8 :
    (after (placed 0x0100 [0x20, 0x05] [] { zeroed with f := 0x00 }) |> fun (t : State) =>
      (t.f, t.pc, t.fine)) = (0x00, 0x0107, 3) := by decide

/-- V96: JR C not taken. -/
theorem test_V96_jr_C_e8 :
    (after (placed 0x0100 [0x38, 0x05] [] { zeroed with f := 0x00 }) |> fun (t : State) =>
      (t.f, t.pc, t.fine)) = (0x00, 0x0102, 2) := by decide

/-- V97: CALL. -/
theorem test_V97_call_a16 :
    (after (placed 0x8000 [0xCD, 0x34, 0x12] [] { zeroed with sp := 0xFFFE }) |> fun (t : State) =>
      (t.f, t.sp, t.pc, t.mem.read 0xFFFD, t.mem.read 0xFFFC, t.fine)) = (0x00, 0xFFFC, 0x1234, 0x80, 0x03, 6) := by decide

/-- V98: CALL NC not taken. -/
theorem test_V98_call_NC_a16 :
    (after (placed 0x8000 [0xD4, 0x34, 0x12] [] { zeroed with sp := 0xFFFE, f := 0x10 }) |> fun (t : State) =>
      (t.f, t.pc, t.fine)) = (0x10, 0x8003, 3) := by decide

/-- V99: CALL with SP wrapping. -/
theorem test_V99_call_a16 :
    (after (placed 0x8000 [0xCD, 0x00, 0x20] [] { zeroed with sp := 0x0001 }) |> fun (t : State) =>
      (t.f, t.sp, t.pc, t.mem.read 0x0000, t.mem.read 0xFFFF, t.fine)) = (0x00, 0xFFFF, 0x2000, 0x80, 0x03, 6) := by decide

/-- V100: RET. -/
theorem test_V100_ret :
    (after (placed 0x0100 [0xC9] [(0xFFFC, 0x03), (0xFFFD, 0x80)] { zeroed with sp := 0xFFFC }) |> fun (t : State) =>
      (t.f, t.sp, t.pc, t.fine)) = (0x00, 0xFFFE, 0x8003, 4) := by decide

/-- V101: RET Z taken. -/
theorem test_V101_ret_Z :
    (after (placed 0x0100 [0xC8] [(0xFFFC, 0x03), (0xFFFD, 0x80)] { zeroed with sp := 0xFFFC, f := 0x80 }) |> fun (t : State) =>
      (t.f, t.sp, t.pc, t.fine)) = (0x80, 0xFFFE, 0x8003, 5) := by decide

/-- V102: RET NZ not taken. -/
theorem test_V102_ret_NZ :
    (after (placed 0x0100 [0xC0] [(0xFFFC, 0x03), (0xFFFD, 0x80)] { zeroed with sp := 0xFFFC, f := 0x80 }) |> fun (t : State) =>
      (t.f, t.pc, t.fine)) = (0x80, 0x0101, 2) := by decide

/-- V103: RETI. -/
theorem test_V103_reti :
    (after (placed 0x0100 [0xD9] [(0xFFFC, 0x03), (0xFFFD, 0x80)] { zeroed with sp := 0xFFFC }) |> fun (t : State) =>
      (t.f, t.sp, t.pc, t.event, t.fine)) = (0x00, 0xFFFE, 0x8003, .reti, 4) := by decide

/-- V104: RST 0x38. -/
theorem test_V104_rst_38 :
    (after (placed 0x0150 [0xFF] [] { zeroed with sp := 0xD000 }) |> fun (t : State) =>
      (t.f, t.sp, t.pc, t.mem.read 0xCFFF, t.mem.read 0xCFFE, t.fine)) = (0x00, 0xCFFE, 0x0038, 0x01, 0x51, 4) := by decide

/-- V105: RST 0x00. -/
theorem test_V105_rst_00 :
    (after (placed 0x0150 [0xC7] [] { zeroed with sp := 0xD000 }) |> fun (t : State) =>
      (t.f, t.sp, t.pc, t.mem.read 0xCFFF, t.mem.read 0xCFFE, t.fine)) = (0x00, 0xCFFE, 0x0000, 0x01, 0x51, 4) := by decide

/-- V106: PUSH BC. -/
theorem test_V106_push_BC :
    (after (placed 0x0100 [0xC5] [] { zeroed with b := 0x12, c := 0x34, sp := 0xFFFE }) |> fun (t : State) =>
      (t.f, t.sp, t.pc, t.mem.read 0xFFFD, t.mem.read 0xFFFC, t.fine)) = (0x00, 0xFFFC, 0x0101, 0x12, 0x34, 4) := by decide

/-- V107: PUSH AF. -/
theorem test_V107_push_AF :
    (after (placed 0x0100 [0xF5] [] { zeroed with a := 0x12, f := 0xB0, sp := 0xFFFE }) |> fun (t : State) =>
      (t.f, t.sp, t.pc, t.mem.read 0xFFFD, t.mem.read 0xFFFC, t.fine)) = (0xB0, 0xFFFC, 0x0101, 0x12, 0xB0, 4) := by decide

/-- V108: POP DE. -/
theorem test_V108_pop_DE :
    (after (placed 0x0100 [0xD1] [(0xFFFC, 0x34), (0xFFFD, 0x12)] { zeroed with sp := 0xFFFC }) |> fun (t : State) =>
      (t.d, t.e, t.f, t.sp, t.pc, t.fine)) = (0x12, 0x34, 0x00, 0xFFFE, 0x0101, 3) := by decide

/-- V109: POP AF masks F. -/
theorem test_V109_pop_AF :
    (after (placed 0x0100 [0xF1] [(0xFFFC, 0xFF), (0xFFFD, 0x12)] { zeroed with sp := 0xFFFC }) |> fun (t : State) =>
      (t.a, t.f, t.sp, t.pc, t.fine)) = (0x12, 0xF0, 0xFFFE, 0x0101, 3) := by decide

/-- V110: POP HL with SP wrapping. -/
theorem test_V110_pop_HL :
    (after (placed 0x0100 [0xE1] [(0x0000, 0xAB), (0xFFFF, 0xCD)] { zeroed with sp := 0xFFFF }) |> fun (t : State) =>
      (t.h, t.l, t.f, t.sp, t.pc, t.fine)) = (0xAB, 0xCD, 0x00, 0x0001, 0x0101, 3) := by decide

/-- V111: LD A,B. -/
theorem test_V111_ld_A_B :
    (after (placed 0x0100 [0x78] [] { zeroed with b := 0x3C }) |> fun (t : State) =>
      (t.a, t.f, t.pc, t.fine)) = (0x3C, 0x00, 0x0101, 1) := by decide

/-- V112: LD A,A. -/
theorem test_V112_ld_A_A :
    (after (placed 0x0100 [0x7F] [] { zeroed with a := 0x3C }) |> fun (t : State) =>
      (t.f, t.pc, t.fine)) = (0x00, 0x0101, 1) := by decide

/-- V113: LD H,(HL): H overwritten after the read. -/
theorem test_V113_ld_H_atHL :
    (after (placed 0x0100 [0x66] [(0xC000, 0x5C)] { zeroed with h := 0xC0, l := 0x00 }) |> fun (t : State) =>
      (t.h, t.f, t.pc, t.fine)) = (0x5C, 0x00, 0x0101, 2) := by decide

/-- V114: LD (HL),A. -/
theorem test_V114_ld_atHL_A :
    (after (placed 0x0100 [0x77] [] { zeroed with a := 0x3C, h := 0xC0, l := 0x00 }) |> fun (t : State) =>
      (t.f, t.pc, t.mem.read 0xC000, t.fine)) = (0x00, 0x0101, 0x3C, 2) := by decide

/-- V115: LD (HL),d8. -/
theorem test_V115_ld_atHL_d8 :
    (after (placed 0x0100 [0x36, 0xAA] [] { zeroed with h := 0xC0, l := 0x00 }) |> fun (t : State) =>
      (t.f, t.pc, t.mem.read 0xC000, t.fine)) = (0x00, 0x0102, 0xAA, 3) := by decide

/-- V116: LD (BC),A. -/
theorem test_V116_ld_atBC_A :
    (after (placed 0x0100 [0x02] [] { zeroed with a := 0x3F, b := 0xC1, c := 0x00 }) |> fun (t : State) =>
      (t.f, t.pc, t.mem.read 0xC100, t.fine)) = (0x00, 0x0101, 0x3F, 2) := by decide

/-- V117: LD A,(DE). -/
theorem test_V117_ld_A_atDE :
    (after (placed 0x0100 [0x1A] [(0xC200, 0x5F)] { zeroed with d := 0xC2, e := 0x00 }) |> fun (t : State) =>
      (t.a, t.f, t.pc, t.fine)) = (0x5F, 0x00, 0x0101, 2) := by decide

/-- V118: LD (HL+),A. -/
theorem test_V118_ld_atHLi_A :
    (after (placed 0x0100 [0x22] [] { zeroed with a := 0x56, h := 0xC0, l := 0xFF }) |> fun (t : State) =>
      (t.h, t.l, t.f, t.pc, t.mem.read 0xC0FF, t.fine)) = (0xC1, 0x00, 0x00, 0x0101, 0x56, 2) := by decide

/-- V119: LD A,(HL-). -/
theorem test_V119_ld_A_atHLd :
    (after (placed 0x0100 [0x3A] [(0xC100, 0x05)] { zeroed with h := 0xC1, l := 0x00 }) |> fun (t : State) =>
      (t.a, t.h, t.l, t.f, t.pc, t.fine)) = (0x05, 0xC0, 0xFF, 0x00, 0x0101, 2) := by decide

/-- V120: LD A,(HL+) at 0xFFFF: HL wraps. -/
theorem test_V120_ld_A_atHLi :
    (after (placed 0x0100 [0x2A] [(0xFFFF, 0x11)] { zeroed with h := 0xFF, l := 0xFF }) |> fun (t : State) =>
      (t.a, t.h, t.l, t.f, t.pc, t.fine)) = (0x11, 0x00, 0x00, 0x00, 0x0101, 2) := by decide

/-- V121: LD (a16),A. -/
theorem test_V121_ld_atA16_A :
    (after (placed 0x0100 [0xEA, 0x00, 0xC0] [] { zeroed with a := 0x99 }) |> fun (t : State) =>
      (t.f, t.pc, t.mem.read 0xC000, t.fine)) = (0x00, 0x0103, 0x99, 4) := by decide

/-- V122: LD A,(a16). -/
theorem test_V122_ld_A_atA16 :
    (after (placed 0x0100 [0xFA, 0x00, 0xC0] [(0xC000, 0x42)] zeroed) |> fun (t : State) =>
      (t.a, t.f, t.pc, t.fine)) = (0x42, 0x00, 0x0103, 4) := by decide

/-- V123: LDH (a8),A. -/
theorem test_V123_ldh_atA8_A :
    (after (placed 0x0100 [0xE0, 0x80] [] { zeroed with a := 0x01 }) |> fun (t : State) =>
      (t.f, t.pc, t.mem.read 0xFF80, t.fine)) = (0x00, 0x0102, 0x01, 3) := by decide

/-- V124: LDH A,(0xFF). -/
theorem test_V124_ldh_A_atA8 :
    (after (placed 0x0100 [0xF0, 0xFF] [(0xFFFF, 0x1F)] zeroed) |> fun (t : State) =>
      (t.a, t.f, t.pc, t.fine)) = (0x1F, 0x00, 0x0102, 3) := by decide

/-- V125: LD (C),A. -/
theorem test_V125_ld_atC_A :
    (after (placed 0x0100 [0xE2] [] { zeroed with a := 0x7E, c := 0x81 }) |> fun (t : State) =>
      (t.f, t.pc, t.mem.read 0xFF81, t.fine)) = (0x00, 0x0101, 0x7E, 2) := by decide

/-- V126: LD HL,d16. -/
theorem test_V126_ld_HL_d16 :
    (after (placed 0x0100 [0x21, 0x34, 0x12] [] zeroed) |> fun (t : State) =>
      (t.h, t.l, t.f, t.pc, t.fine)) = (0x12, 0x34, 0x00, 0x0103, 3) := by decide

/-- V127: LD SP,d16. -/
theorem test_V127_ld_SP_d16 :
    (after (placed 0x0100 [0x31, 0xFE, 0xFF] [] zeroed) |> fun (t : State) =>
      (t.f, t.sp, t.pc, t.fine)) = (0x00, 0xFFFE, 0x0103, 3) := by decide

/-- V128: LD (a16),SP. -/
theorem test_V128_ld_atA16_SP :
    (after (placed 0x0100 [0x08, 0x00, 0xC1] [] { zeroed with sp := 0xFFF8 }) |> fun (t : State) =>
      (t.f, t.pc, t.mem.read 0xC100, t.mem.read 0xC101, t.fine)) = (0x00, 0x0103, 0xF8, 0xFF, 5) := by decide

/-- V129: LD (0xFFFF),SP: high byte wraps to 0x0000. -/
theorem test_V129_ld_atA16_SP :
    (after (placed 0x0100 [0x08, 0xFF, 0xFF] [] { zeroed with sp := 0x1234 }) |> fun (t : State) =>
      (t.f, t.pc, t.mem.read 0xFFFF, t.mem.read 0x0000, t.fine)) = (0x00, 0x0103, 0x34, 0x12, 5) := by decide

/-- V130: LD SP,HL. -/
theorem test_V130_ld_SP_HL :
    (after (placed 0x0100 [0xF9] [] { zeroed with h := 0xD0, l := 0x00 }) |> fun (t : State) =>
      (t.f, t.sp, t.pc, t.fine)) = (0x00, 0xD000, 0x0101, 2) := by decide

/-- V131: NOP. -/
theorem test_V131_nop :
    (after (placed 0x0100 [0x00] [] zeroed) |> fun (t : State) =>
      (t.f, t.pc, t.fine)) = (0x00, 0x0101, 1) := by decide

/-- V132: HALT. -/
theorem test_V132_halt :
    (after (placed 0x0100 [0x76] [] zeroed) |> fun (t : State) =>
      (t.f, t.pc, t.event, t.fine)) = (0x00, 0x0101, .halt, 1) := by decide

/-- V133: STOP (STOP_LENGTH = 2). -/
theorem test_V133_stop :
    (after (placed 0x0100 [0x10, 0x00] [] zeroed) |> fun (t : State) =>
      (t.f, t.pc, t.event, t.fine)) = (0x00, 0x0102, .stop, 1) := by decide

/-- V134: DI. -/
theorem test_V134_di :
    (after (placed 0x0100 [0xF3] [] zeroed) |> fun (t : State) =>
      (t.f, t.pc, t.event, t.fine)) = (0x00, 0x0101, .di, 1) := by decide

/-- V135: EI. -/
theorem test_V135_ei :
    (after (placed 0x0100 [0xFB] [] zeroed) |> fun (t : State) =>
      (t.f, t.pc, t.event, t.fine)) = (0x00, 0x0101, .ei, 1) := by decide

/-- V136: illegal slot under ILLEGAL_OPCODE_MODE = nop. -/
theorem test_V136_illegal_D3 :
    (after (placed 0x0100 [0xD3] [] zeroed) |> fun (t : State) =>
      (t.f, t.pc, t.fine)) = (0x00, 0x0101, 1) := by decide

/-- V137: CB prefix then SWAP A. -/
theorem test_V137_swap_A :
    (after (placed 0x0100 [0xCB, 0x37] [] { zeroed with a := 0x12 }) |> fun (t : State) =>
      (t.a, t.f, t.pc, t.fine)) = (0x21, 0x00, 0x0102, 2) := by decide

/-- V138: CB prefix at 0xFFFF: second byte from 0x0000. -/
theorem test_V138_rlc_B :
    (after (placed 0xFFFF [0xCB, 0x00] [(0x0000, 0x00)] { zeroed with b := 0x01 }) |> fun (t : State) =>
      (t.b, t.f, t.pc, t.fine)) = (0x02, 0x00, 0x0001, 2) := by decide

/-- V139: fetch at 0xFFFF wraps PC to 0x0000. -/
theorem test_V139_nop :
    (after (placed 0xFFFF [0x00] [] zeroed) |> fun (t : State) =>
      (t.f, t.pc, t.fine)) = (0x00, 0x0000, 1) := by decide

/-! ### Reset, and a program placed at the reset vector -/

/-- R48: the values the spec states, and the draw the model names. -/
theorem test_reset :
    (State.reset.pc, State.reset.fine, State.reset.coarse, State.reset.locked, State.reset.f &&& 0x0F, State.reset.sp) =
      (0x0000, 0, 0, false, 0, 0xFFFE) := by decide

/-- The bytes at PC run as the next step's instruction. -/
theorem test_fetch_word_primary :
    (after (State.reset.withFetchWord 8 0x78) |> fun (t : State) => (t.executed, t.pc, t.a)) =
      (some ⟨.primary, 0x78⟩, 0x0001, 0x00) := by decide

theorem test_fetch_word_cb :
    (after (State.reset.withFetchWord 16 0xCB37) |> fun (t : State) => (t.executed, t.pc, t.a)) =
      (some ⟨.cb, 0x37⟩, 0x0002, 0x10) := by decide

/-- The byte 0xCB alone selects the CB page, with a zero second byte (R83). -/
theorem test_fetch_word_prefix :
    (after (State.reset.withFetchWord 8 0xCB) |> fun (t : State) => (t.executed, t.pc)) =
      (some ⟨.cb, 0x00⟩, 0x0002) := by decide

/-! ### The accessors: the vectors of 95_test_vectors.md section 2 -/

theorem test_A1_set_paired :
    (zeroed.setPaired .bc 0x1234).map (fun (t : State) => (t.b, t.c, t.bc)) = .ok (0x12, 0x34, 0x1234) := by decide

theorem test_A2_set_paired_AF :
    (zeroed.setPaired .af 0xABCD).map (fun (t : State) => (t.a, t.f, t.af)) = .ok (0xAB, 0xC0, 0xABC0) := by decide

theorem test_A3_set_value : (zeroed.setFlagsValue 0xFF).flagsValue = 0xF0 := by decide

theorem test_A4_flag_operations :
    (((zeroed.setFlagAt 4).bind fun (t : State) => t.toggleFlagAt 7).bind fun (t : State) => t.putFlagAt 5 true).map
      (fun (t : State) => t.f) = .ok 0xB0 := by decide

theorem test_A5_reset_flag :
    (State.resetFlagAt { zeroed with f := 0xF0 } 6).map (fun (t : State) => (t.f, t.isFlagSet 6)) = .ok (0xB0, .ok false) := by decide

theorem test_A6_unknown_flag : zeroed.isFlagSet 3 = .error .unknownFlag := by decide

theorem test_A7_unknown_auxiliary :
    zeroed.auxiliary .sp = .error .unknownAuxiliaryRegister ∧ zeroed.auxiliary .bc = .error .unknownAuxiliaryRegister ∧
      zeroed.auxiliary .a = .error .unknownAuxiliaryRegister := by decide

theorem test_A8_unknown_pair :
    zeroed.paired .sp = .error .unknownPairedRegister ∧ zeroed.setPaired .pc 0 = .error .unknownPairedRegister := by
  decide

theorem test_A9_flags_not_incrementable :
    zeroed.increment .f = .error .flagsNotIncrementable ∧ zeroed.incrementBy .af 1 = .error .flagsNotIncrementable := by
  decide

theorem test_A10_flags_not_decrementable : zeroed.decrement .af = .error .flagsNotDecrementable := by decide

theorem test_A11_increment_HL :
    (State.increment { zeroed with h := 0xFF, l := 0xFF } .hl).map (fun (t : State) => (t.hl, t.f)) = .ok (0x0000, 0x00) := by decide

theorem test_A12_decrement_L : (zeroed.decrement .l).map (fun (t : State) => (t.l, t.h)) = .ok (0xFF, 0x00) := by decide

theorem test_A13_decrement_by_SP :
    (State.decrementBy { zeroed with sp := 0x0001 } .sp 2).map (fun (t : State) => t.sp) = .ok 0xFFFF := by decide

theorem test_A14_increment_PC :
    (State.increment { zeroed with pc := 0xFFFF } .pc).map (fun (t : State) => t.pc) = .ok 0x0000 := by decide

theorem test_A15_clock_after_reset : (State.reset.fineCount, State.reset.coarseCount) = (0, 0) := by decide

/-- S18. -/
theorem test_S18_clock : (((zeroed.advance 3).advance 4).fineCount, ((zeroed.advance 3).advance 4).coarseCount) =
    (7, 28) := by decide

/-! ### The parameters' other values -/

/-- R215 under lock mode: the slot sets the bit, and the next dispatch is STUCK. -/
theorem test_illegal_locks :
    (after (placed 0x0400 [0xD3] [] (inLockMode zeroed))).locked = true ∧
      step (after (placed 0x0400 [0xD3] [] (inLockMode zeroed))) = .fault .stuck := ⟨rfl, rfl⟩

/-- R212 under `STOP_LENGTH = 1`. -/
theorem test_stop_one_byte :
    (after (placed 0x0300 [0x10, 0x3C] [] { zeroed with params := { zeroed.params with stopLength := .one } }) |>
      fun (t : State) => (t.pc, t.event)) = (0x0301, .stop) := by decide

/-- The state with a `CYCLE_TABLE`. -/
def withCycles (table : Config.CycleTable) (s : State) : State := { s with params := { s.params with cycles := table } }

/-- R242 under a `CYCLE_TABLE` that names JR NZ: its taken and its not-taken cost, and 1 for NOP, which it leaves to
the default. -/
theorem test_cycle_table_conditional :
    ((afterExec (.jr_NZ_e8 5) (withCycles [⟨⟨.primary, 0x20⟩, 9, 7⟩] zeroed)).fine,
      (afterExec (.jr_NZ_e8 5) (withCycles [⟨⟨.primary, 0x20⟩, 9, 7⟩] { zeroed with f := 0x80 })).fine,
      (afterExec .nop (withCycles [⟨⟨.primary, 0x20⟩, 9, 7⟩] zeroed)).fine) = (9, 7, 1) := by decide

/-- R209 under a `CYCLE_TABLE`: the CB row's cost is charged, and nothing for the prefix slot. -/
theorem test_cycle_table_cb :
    (after (placed 0 [0xCB, 0x37] [] (withCycles [⟨⟨.primary, 0xCB⟩, 50, 50⟩, ⟨⟨.cb, 0x37⟩, 6, 6⟩] zeroed))).fine = 6 := by
  decide

/-- R60 and R166 under an external bus: the opcode's fetch, then the high byte, then the low byte. -/
theorem test_external_push_order :
    ((zeroed.resetWith ⟨0, 0, 0x12, 0x34, 0, 0, 0, 0, 0xFFFE⟩ 0 |> onExternalBus |> afterExec .push_BC).busLog) =
      [.write 0xFFFC 0x34, .write 0xFFFD 0x12] := by decide

/-- R221: the entry sequence of `dmg_entry`. -/
theorem test_interrupt_entry :
    (State.interruptEntry { zeroed with pc := 0x1234, sp := 0xD000 } .dmgEntry .x50 |> fun (t : State) =>
      (t.pc, t.sp, t.mem.read 0xCFFF, t.mem.read 0xCFFE, t.fine)) = (0x0050, 0xCFFE, 0x12, 0x34, 5) := by decide

/-- R68: a push over the instruction's own bytes does not change it (the CALL is at 0x8000, its stack at 0x8002). -/
theorem test_self_overwriting_call :
    (after (placed 0x8000 [0xCD, 0x34, 0x12] [] { zeroed with sp := 0x8002 }) |> fun (t : State) =>
      (t.pc, t.mem.read 0x8001, t.mem.read 0x8000)) = (0x1234, 0x80, 0x03) := by decide

/-- R200: n = 0xFF stores to 0xFFFF. -/
theorem test_high_page_top :
    (afterExec (.ldh_atA8_A 0xFF) { zeroed with a := 0x77 }).mem.read 0xFFFF = 0x77 := by decide

/-! ### States and operands that meet the hypotheses of the statements -/

/-- `FlagOperationsChangeOneBit`: another bit than the flag's. -/
theorem test_witness_other_bit : (3 : Nat) ≠ FlagId.carry.position ∧ (5 : Nat) ≠ FlagId.carry.position := by decide

/-- `UnknownFlagFails`: the positions next to the four flags. -/
theorem test_witness_unknown_flag :
    ((3 : Nat) ≠ 4 ∧ (3 : Nat) ≠ 5 ∧ (3 : Nat) ≠ 6 ∧ (3 : Nat) ≠ 7 ∧ zeroed.toggleFlagAt 3 = .error .unknownFlag) ∧
      ((8 : Nat) ≠ 4 ∧ (8 : Nat) ≠ 5 ∧ (8 : Nat) ≠ 6 ∧ (8 : Nat) ≠ 7 ∧ zeroed.toggleFlagAt 8 = .error .unknownFlag) := by
  decide

/-- `PairRoundTrip`: each of the three pairs, and AF with a low nibble that is masked. -/
theorem test_witness_pairs :
    ((zeroed.setPaired .bc 0xBEEF).bind fun (t : State) => t.paired .bc) = .ok 0xBEEF ∧
      ((zeroed.setPaired .de 0xBEEF).bind fun (t : State) => t.paired .de) = .ok 0xBEEF ∧
      ((zeroed.setPaired .hl 0xBEEF).bind fun (t : State) => t.paired .hl) = .ok 0xBEEF ∧
      ((zeroed.setPaired .af 0x12FF).bind fun (t : State) => t.paired .af) = .ok 0x12F0 := by decide

/-- `IncrementAndDecrementOfRegisters`: a successful increment and decrement, by 1 and by the largest amount of each
width. -/
theorem test_witness_increment :
    zeroed.increment .a = .ok { zeroed with a := 1 } ∧
      zeroed.incrementBy .a (0xFF : Byte) = .ok { zeroed with a := 0xFF } ∧
      zeroed.decrementBy .sp (0xFFFF : Word) = .ok { zeroed with sp := 1 } := by decide

/-- `AccessorsFailOnlyOutsideTheirDomain`: identifiers on both sides of each domain. -/
theorem test_witness_domains :
    RegId.l ∈ [RegId.b, .c, .d, .e, .h, .l] ∧ RegId.f ∉ [RegId.b, .c, .d, .e, .h, .l] ∧
      RegId.af ∈ [RegId.bc, .de, .hl, .af] ∧ RegId.pc ∉ [RegId.bc, .de, .hl, .af] := by decide

/-- `FlatMemoryReturnsLastWrite`, `WordAccessIsLittleEndian`, `PushThenPopReturnsValue`: a flat bus and canonical
memory, at the top of memory where a word wraps and with SP = 0x0001. -/
theorem test_witness_flat :
    State.reset.params.bus = .flat ∧ State.reset.mem.wf = true ∧ (0x0000 : Word) ≠ 0xFFFF ∧
      ((State.reset.store 0xFFFF 0xAB).load 0xFFFF).1 = 0xAB ∧
      ((State.reset.storeWord 0xFFFF 0x1234).loadWord 0xFFFF).1 = 0x1234 ∧
      (State.push16 { zeroed with sp := 0x0001 } 0x1234).pop16.1 = 0x1234 := by decide

/-- `ExternalBusRecordsEveryAccess`, `StepOnExternalBus`: an external bus, not stuck. -/
theorem test_witness_external :
    (onExternalBus State.reset).params.bus = .external ∧ (onExternalBus State.reset).isStuck = false := by decide

/-- `OperandReadWrite`: another register than the one written. -/
theorem test_witness_other_register : Reg8.a ≠ Reg8.l := by decide

/-- `DaaGivesDecimalResult`: 99 and 99, and 0 minus 99. -/
theorem test_witness_decimal :
    (99 : Nat) < 100 ∧ (State.reg { zeroed with a := 0x99 } .a) = Claims.bcd 99 ∧
      (afterExec .daa (afterExec (.add_A_d8 (Claims.bcd 99)) { zeroed with a := 0x99 })).a = Claims.bcd 98 ∧
      (afterExec .daa (afterExec (.sub_d8 (Claims.bcd 99)) zeroed)).a = Claims.bcd 1 := by decide

/-- `ResAndSetChangeOneBit`: the lowest and the highest bit. -/
theorem test_witness_bits : (0 : Nat) < 8 ∧ (7 : Nat) < 8 := by decide

/-- `ConditionUnit`: two states that differ in N and H and agree in Z and C. -/
theorem test_witness_condition :
    State.flag { zeroed with f := 0xF0 } .zero = State.flag { zeroed with f := 0x90 } .zero ∧
      State.flag { zeroed with f := 0xF0 } .carry = State.flag { zeroed with f := 0x90 } .carry := by decide

/-- `IllegalSlotResult`: both modes. -/
theorem test_witness_illegal :
    zeroed.params.illegalMode = .nop ∧ (inLockMode zeroed).params.illegalMode = .lock := by decide

/-- `DecodeOfEncode`: a well-formed instruction with an operand at its largest value. -/
theorem test_witness_encode :
    (Instr.ld_atA16_SP 0xFFFF).wellFormed = true ∧
      decode .two (encode .two (.ld_atA16_SP 0xFFFF) ++ [0x00]) = .ok (.ld_atA16_SP 0xFFFF, [0x00]) := by decide

/-- `EncodeOfDecode`: bytes that decode, to another instruction than STOP and to STOP. -/
theorem test_witness_decode :
    decode .two [0x3E, 0x24, 0x00] = .ok (.ld_A_d8 0x24, [0x00]) ∧ (Instr.ld_A_d8 0x24) ≠ .stop ∧
      decode .two [0x10, 0x99, 0x00] = .ok (.stop, [0x00]) := by decide

/-- `DecoderIsTotal`: sequences that end with their instruction, of each length, and one that ends inside it. -/
theorem test_witness_lengths :
    lengthOf .two 0x00 ≤ ([0x00] : List Byte).length ∧ decode .two [0x00] = .ok (.nop, []) ∧
      lengthOf .two 0x10 ≤ ([0x10, 0x55] : List Byte).length ∧ decode .two [0x10, 0x55] = .ok (.stop, []) ∧
      lengthOf .two 0xC3 ≤ ([0xC3, 0x34, 0x12] : List Byte).length ∧
      decode .two [0xC3, 0x34, 0x12] = .ok (.jp_a16 0x1234, []) ∧
      ([0xC3, 0x34] : List Byte).length < lengthOf .two 0xC3 ∧ decode .two [0xC3, 0x34] = .error .truncated := by decide

/-- `EverySlotHoldsOneInstruction`: two instructions of one slot. -/
theorem test_witness_slot : slotOf (.ld_B_d8 0) = slotOf (.ld_B_d8 1) := by decide

/-- `StepRunsTheDecodedInstruction`: the bytes at PC decode, with PC at the top of memory. -/
theorem test_witness_step :
    (placed 0xFFFF [0x3E, 0x24] [] zeroed).isStuck = false ∧
      (placed 0xFFFF [0x3E, 0x24] [] zeroed).params.bus = .flat ∧
      decode .two (Claims.bytesAt (placed 0xFFFF [0x3E, 0x24] [] zeroed).mem 0xFFFF) =
        .ok (.ld_A_d8 0x24, [0x00]) := by decide

/-- `StepStopsOnlyWhenStuck`: a locked machine in lock mode, and a lock bit that nop mode does not look at. -/
theorem test_witness_stuck :
    step (inLockMode { zeroed with locked := true }) = .fault .stuck ∧
      (zeroed.params.illegalMode ≠ .lock) ∧ (after { zeroed with locked := true }).fine = 1 := ⟨rfl, by decide, rfl⟩

/-- `StepKeepsTheInvariant`: a state with the invariant that takes a step. -/
theorem test_witness_invariant : State.reset.Inv ∧ step State.reset = .next (after State.reset) := ⟨by decide, rfl⟩

/-- `ResetHasTheInvariant`: canonical memory. -/
theorem test_witness_reset : (placed 0x0100 [0x01, 0x02] [] zeroed).mem.wf = true := by decide

/-- `NothingDependsOnTheClock`: a machine that is not stuck. -/
theorem test_witness_not_stuck : State.reset.isStuck = false := by decide

/-- `FlagsChangeAsTheTableSays`, `OnlyStoredBytesChange`: an instruction that completes, beside the byte it stores. -/
theorem test_witness_frame :
    exec .inc_atHL { zeroed with h := 0xC0 } = .next (afterExec .inc_atHL { zeroed with h := 0xC0 }) ∧
      (0xC001 : Word) ∉ storedBytes { zeroed with h := 0xC0 } Instr.inc_atHL.effective.form ∧
      (0xC000 : Word) ∈ storedBytes { zeroed with h := 0xC0 } Instr.inc_atHL.effective.form := ⟨rfl, by decide, by decide⟩

/-- `OnlyNamedRegistersChange`: the register next to the one written, SP, PC, and a lock bit that is set. -/
theorem test_witness_registers :
    Reg8.b ∉ writtenRegs Instr.inc_C.effective.form ∧ writesSP Instr.inc_C.effective.form = false ∧
      writesPC Instr.inc_C.effective.form = false ∧
      (afterExec .illegal_D3 (inLockMode zeroed)).locked ≠ (inLockMode zeroed).locked := by decide

end Sys2Proof.Tests
end

section
/-! PROOFS. The register file's accessors: what each flag operation does with the bit position it is given, and the
pairs as views of their halves (10_state.md sections 1 and 2). -/

namespace Sys2Proof.Machine

/-! ### The bit positions that are flags -/

@[simp] theorem flagAt_position (k : FlagId) : flagAt k.position = .ok k := by cases k <;> rfl

theorem flagAt_eq_error {j : Nat} (h4 : j ≠ 4) (h5 : j ≠ 5) (h6 : j ≠ 6) (h7 : j ≠ 7) :
    flagAt j = .error .unknownFlag := by
  simp only [flagAt]

theorem position_lt (k : FlagId) : k.position < 8 := by cases k <;> decide

/-! ### The flag accessors, by what their position identifies -/

theorem isFlagSet_eq (s : State) (j : Nat) : s.isFlagSet j = (flagAt j).map s.flag := by
  unfold State.isFlagSet
  cases flagAt j <;> rfl

theorem putFlagAt_eq (s : State) (j : Nat) (v : Bool) :
    s.putFlagAt j v = (flagAt j).map fun k => s.putFlag k v := by
  unfold State.putFlagAt
  cases flagAt j <;> rfl

theorem toggleFlagAt_eq (s : State) (j : Nat) :
    s.toggleFlagAt j = (flagAt j).map fun k => s.putFlag k (!s.flag k) := by
  unfold State.toggleFlagAt
  cases flagAt j <;> rfl

/-! ### The bits of F after one is written -/

theorem getLsbD_putBit_same (f : Byte) {k : Nat} (hk : k < 8) (v : Bool) : (putBit f k v).getLsbD k = v := by
  cases v <;> simp [putBit, hk]

theorem getLsbD_putBit_other (f : Byte) {j k : Nat} (hj : j ≠ k) (v : Bool) :
    (putBit f k v).getLsbD j = f.getLsbD j := by
  have hmask : (1#8 <<< k).getLsbD j = false := by
    rw [← BitVec.twoPow_eq, BitVec.getLsbD_twoPow]
    simp [hj.symm]
  cases v with
  | false => simpa [putBit, hmask] using BitVec.lt_of_getLsbD
  | true => simp [putBit, hmask]

/-- Settles O2: the position identifies its flag, and `putBit` writes that bit alone. -/
theorem flagOperationsChangeOneBit : Obligations.FlagOperationsChangeOneBit := by
  intro s k v
  have hput (w : Bool) : s.putFlagAt k.position w = .ok (s.putFlag k w) := by
    rw [putFlagAt_eq, flagAt_position]; rfl
  have htoggle : s.toggleFlagAt k.position = .ok (s.putFlag k (!s.flag k)) := by
    rw [toggleFlagAt_eq, flagAt_position]; rfl
  have hread : s.isFlagSet k.position = .ok (s.flag k) := by
    rw [isFlagSet_eq, flagAt_position]; rfl
  exact ⟨hput v, hput true, hput false, htoggle, hread, getLsbD_putBit_same s.f (position_lt k) v,
    fun j hj => getLsbD_putBit_other s.f hj v, rfl⟩

/-- Settles O3: every flag operation looks its position up first, and only 4 to 7 identify a flag. -/
theorem unknownFlagFails : Obligations.UnknownFlagFails := by
  refine ⟨⟨rfl, rfl, rfl, rfl⟩, fun s j v h4 h5 h6 h7 => ?_⟩
  have hj := flagAt_eq_error h4 h5 h6 h7
  have hput (w : Bool) : s.putFlagAt j w = .error .unknownFlag := by rw [putFlagAt_eq, hj]; rfl
  have htoggle : s.toggleFlagAt j = .error .unknownFlag := by rw [toggleFlagAt_eq, hj]; rfl
  have hread : s.isFlagSet j = .error .unknownFlag := by rw [isFlagSet_eq, hj]; rfl
  exact ⟨hread, hput v, hput true, hput false, htoggle⟩

/-! ### The pairs -/

theorem joinBytes_and (x y m n : Byte) : joinBytes x y &&& joinBytes m n = joinBytes (x &&& m) (y &&& n) :=
  BitVec.and_append

/-- AF keeps no bit of the low nibble that is written to it (R31, D24). -/
@[simp] theorem setAF_af (s : State) (v : Word) : (s.setAF v).af = v &&& 0xFFF0#16 := by
  have hmask : (0xFFF0#16 : Word) = joinBytes 0xFF#8 0xF0#8 := by decide
  have hhi : hiByte v &&& 0xFF#8 = hiByte v := BitVec.and_allOnes
  rw [hmask, ← joinBytes_hi_lo v, joinBytes_and]
  simp [State.af, hhi]

/-- Settles O4: a pair read back is the halves written, joined again; only AF's low half is masked in between. -/
theorem pairRoundTrip : Obligations.PairRoundTrip := by
  intro s v
  refine ⟨?_, s.setAF v, rfl, congrArg Except.ok (setAF_af s v)⟩
  rintro p (rfl | rfl | rfl)
  · exact ⟨s.setBC v, rfl, congrArg Except.ok (setBC_bc s v)⟩
  · exact ⟨s.setDE v, rfl, congrArg Except.ok (setDE_de s v)⟩
  · exact ⟨s.setHL v, rfl, congrArg Except.ok (setHL_hl s v)⟩

/-- Settles O5: every pair is `joinBytes` of its halves, and `hiByte` and `loByte` are what its writes leave in them. -/
theorem pairsAreViewsOfTheirHalves : Obligations.PairsAreViewsOfTheirHalves := by
  intro s v x y
  have hhi := hiByte_toNat v
  have hlo := loByte_toNat v
  exact ⟨joinBytes_toNat s.b s.c, joinBytes_toNat s.d s.e, joinBytes_toNat s.h s.l, joinBytes_toNat s.a s.f,
    joinBytes_toNat x y, joinBytes_toNat x y, joinBytes_toNat x y, hhi, hlo, hhi, hlo, hhi, hlo⟩

end Sys2Proof.Machine
end

section
/-! PROOFS. 8-bit addition, logic and INC: the state an ALU operation leaves, and what INC does to its operand and the
flags (40_alu8.md). -/

namespace Sys2Proof.Machine

open Sys2Proof.Claims

/-! ### Reading and writing an r8 operand -/

@[simp] theorem read8_a (s : State) (o : Operand8) : (s.read8 o).2.a = s.a := by
  rw [read8_state]

@[simp] theorem read8_f (s : State) (o : Operand8) : (s.read8 o).2.f = s.f := by
  rw [read8_state]

@[simp] theorem read8_flag (s : State) (o : Operand8) (k : FlagId) : (s.read8 o).2.flag k = s.flag k := by
  simp [State.flag]

@[simp] theorem write8_flag (s : State) (o : Operand8) (v : Byte) (k : FlagId) :
    (s.write8 o v).flag k = s.flag k := by
  simp [State.flag, write8_f]

/-! ### What an ALU operation does to A and F -/

/-- Every ALU operation but CP puts its result into A and replaces the whole of F (R95). -/
theorem applyAlu_eq_of_ne_cp (s : State) {op : AluOp} (hop : op ≠ .cp) (v : Byte) :
    s.applyAlu op v = { s with
      a := (aluResult op s.a v (s.flag .carry)).1
      f := (aluResult op s.a v (s.flag .carry)).2.toByte } := by
  cases op with
  | cp => exact absurd rfl hop
  | _ => exact writeFlags_eq _ _

theorem applyAlu_add (s : State) (v : Byte) : s.applyAlu .add v = afterAdd s v false := by
  rw [applyAlu_eq_of_ne_cp s (by decide), aluResult, add8_eq]
  rfl

theorem applyAlu_adc (s : State) (v : Byte) : s.applyAlu .adc v = afterAdd s v (s.flag .carry) := by
  rw [applyAlu_eq_of_ne_cp s (by decide), aluResult, add8_eq]
  rfl

theorem applyAlu_and (s : State) (v : Byte) : s.applyAlu .and v =
    { s with a := s.a &&& v, f := FlagSet.toByte ⟨s.a &&& v == 0#8, false, true, false⟩ } :=
  applyAlu_eq_of_ne_cp s (by decide) v

theorem applyAlu_or (s : State) (v : Byte) : s.applyAlu .or v =
    { s with a := s.a ||| v, f := FlagSet.toByte ⟨s.a ||| v == 0#8, false, false, false⟩ } :=
  applyAlu_eq_of_ne_cp s (by decide) v

theorem applyAlu_xor (s : State) (v : Byte) : s.applyAlu .xor v =
    { s with a := s.a ^^^ v, f := FlagSet.toByte ⟨s.a ^^^ v == 0#8, false, false, false⟩ } :=
  applyAlu_eq_of_ne_cp s (by decide) v

/-- An ALU instruction works on the state its operand's read leaves. -/
theorem exec_alu_next (s : State) (op : AluOp) (o : Operand8) :
    ∃ n, exec (.ofAlu op o) s = .next (((s.read8 o).2.applyAlu op (s.read8 o).1).advance n) :=
  ⟨_, exec_alu s op o⟩

theorem exec_aluImm_next (s : State) (op : AluOp) (v : Byte) :
    ∃ n, exec (.ofAluImm op v) s = .next ((s.applyAlu op v).advance n) :=
  ⟨_, exec_aluImm s op v⟩

/-! ### What INC does to its operand and F -/

/-- INC reads, writes and then sets Z, N and H; C and the low bits of F come from the state before (R93). -/
theorem incOperand_eq (s : State) (o : Operand8) :
    s.incOperand o = { (s.read8 o).2.write8 o (BitVec.ofNat 8 ((s.read8 o).1.toNat + 1)) with
      f := withFlags s.f (decide ((s.read8 o).1.toNat = 255)) false (decide ((s.read8 o).1.toNat % 16 = 15))
        (s.flag .carry) } := by
  simp only [State.incOperand, inc8_eq, writeZNH_eq, write8_flag, read8_flag, write8_f, read8_f, withFlags]

/-! ### The carry and half-carry tests of R90 and R93 -/

/-- The comparison of `a` with `0xFF - b`, strict without a carry-in, is the carry out of the exact sum. -/
theorem add_carry_test (a b : Byte) (cin : Bool) :
    a.toNat + b.toNat + cin.toNat > 255 ↔ if cin then a ≥ 0xFF#8 - b else a > 0xFF#8 - b := by
  have hc : (if cin then decide (0xFF#8 - b ≤ a) else decide (0xFF#8 - b < a)) =
      decide (a.toNat + b.toNat + cin.toNat > 255) :=
    congrArg (fun result => result.2.c) (add8_eq a b cin)
  cases cin <;> simpa using hc.symm

theorem add_half_carry_test (a b : Byte) (cin : Bool) :
    a.toNat % 16 + b.toNat % 16 + cin.toNat > 15 ↔
      (a ^^^ b ^^^ BitVec.ofNat 8 (a.toNat + b.toNat + cin.toNat)).getLsbD 4 = true := by
  rw [half_carry_add, decide_eq_true_iff]

theorem inc_half_carry_test (v : Byte) :
    v.toNat % 16 = 15 ↔ (v ^^^ 1#8 ^^^ (v + 1#8)).getLsbD 4 = true := by
  have hh : (v ^^^ 1#8 ^^^ (v + 1#8)).getLsbD 4 = decide (v.toNat % 16 = 15) :=
    congrArg (fun result => result.2.h) (inc8_eq v)
  rw [hh, decide_eq_true_iff]

/-! ### The statements -/

/-- Settles O12: ADD and ADC are `add8` without and with the carry, and `add8` is the exact sum with its overflows. -/
theorem addAndAdcResult : Obligations.AddAndAdcResult := by
  refine ⟨fun s o => ?_, fun s v => ?_, fun s o => ?_, fun s v => ?_, fun a b cin => ?_⟩
  · simpa only [applyAlu_add] using exec_alu_next s .add o
  · simpa only [applyAlu_add] using exec_aluImm_next s .add v
  · simpa only [applyAlu_adc, read8_flag] using exec_alu_next s .adc o
  · simpa only [applyAlu_adc] using exec_aluImm_next s .adc v
  · exact ⟨add_carry_test a b cin, add_half_carry_test a b cin⟩

/-- Settles O15: the operand's read leaves A alone, and the three operations then write A and the whole of F. -/
theorem logicResult : Obligations.LogicResult := by
  refine ⟨fun s o => ⟨?_, ?_, ?_⟩, fun s v => ⟨?_, ?_, ?_⟩⟩
  · simpa only [applyAlu_and, read8_a] using exec_alu_next s .and o
  · simpa only [applyAlu_or, read8_a] using exec_alu_next s .or o
  · simpa only [applyAlu_xor, read8_a] using exec_alu_next s .xor o
  · simpa only [applyAlu_and] using exec_aluImm_next s .and v
  · simpa only [applyAlu_or] using exec_aluImm_next s .or v
  · simpa only [applyAlu_xor] using exec_aluImm_next s .xor v

/-- Settles O16: by what INC does to its operand and F, and `inc8`'s half-carry. -/
theorem inc8Result : Obligations.Inc8Result :=
  ⟨fun s o => ⟨_, incOperand_eq s o ▸ exec_inc s o⟩, inc_half_carry_test⟩

end Sys2Proof.Machine
end

section
/-! PROOFS. The CB-page rotates, shifts and SWAP as arithmetic on the operand's value: a rotate or a shift by one moves
the byte and takes one bit in at the vacated end (42_rotate_shift.md). -/

namespace Sys2Proof.Machine

open Sys2Proof.Claims

/-! ### The bit shifted out -/

theorem getLsbD_zero (v : Byte) : v.getLsbD 0 = decide (v.toNat % 2 = 1) := Nat.testBit_zero v.toNat

theorem getLsbD_seven (v : Byte) : v.getLsbD 7 = decide (v.toNat ≥ 128) := BitVec.msb_eq_decide v

theorem toNat_decide_odd (n : Nat) : (decide (n % 2 = 1)).toNat = n % 2 := by
  obtain h | h := Nat.mod_two_eq_zero_or_one n <;> simp [h]

theorem toNat_decide_high (v : Byte) : (decide (v.toNat ≥ 128)).toNat = v.toNat / 128 := by
  have hv := v.isLt
  by_cases h : v.toNat ≥ 128
  · simp only [h, decide_true, Bool.toNat_true]
    omega
  · simp only [h, decide_false, Bool.toNat_false]
    omega

/-! ### The byte moved by one place, with the bit taken in -/

theorem shiftLeft_or_low (v : Byte) (b : Bool) :
    v <<< 1 ||| (BitVec.ofBool b).setWidth 8 = BitVec.ofNat 8 ((2 * v.toNat + b.toNat) % 256) := by
  have hdisjoint : v <<< 1 &&& (BitVec.ofBool b).setWidth 8 = 0#8 := by
    cases b with
    | false => exact BitVec.and_zero
    | true => exact (BitVec.and_twoPow (v <<< 1) 0).trans (by simp)
  rw [← BitVec.add_eq_or_of_and_eq_zero _ _ hdisjoint]
  apply BitVec.eq_of_toNat_eq
  cases b <;> simp [BitVec.toNat_add, Nat.shiftLeft_eq, Nat.mul_comm]

theorem shiftRight_or_high (v : Byte) (b : Bool) :
    v >>> 1 ||| (BitVec.ofBool b).setWidth 8 <<< 7 = BitVec.ofNat 8 (v.toNat / 2 + 128 * b.toNat) := by
  have hdisjoint : v >>> 1 &&& (BitVec.ofBool b).setWidth 8 <<< 7 = 0#8 := by
    cases b with
    | false => exact BitVec.and_zero
    | true => exact (BitVec.and_twoPow (v >>> 1) 7).trans (by simp)
  rw [← BitVec.add_eq_or_of_and_eq_zero _ _ hdisjoint]
  apply BitVec.eq_of_toNat_eq
  cases b <;> simp [BitVec.toNat_add, Nat.shiftRight_eq_div_pow]
  omega

theorem shiftLeft_one_eq (v : Byte) : v <<< 1 = BitVec.ofNat 8 (2 * v.toNat % 256) := by
  simpa using shiftLeft_or_low v false

theorem shiftRight_one_eq (v : Byte) : v >>> 1 = BitVec.ofNat 8 (v.toNat / 2) := by
  simpa using shiftRight_or_high v false

/-- Bit 7 alone is what SRA takes in, so that the sign is kept (R136). -/
theorem and_sign_bit (v : Byte) : v &&& 0x80#8 = (BitVec.ofBool (v.getLsbD 7)).setWidth 8 <<< 7 := by
  refine (BitVec.and_twoPow v 7).trans ?_
  cases v.getLsbD 7 <;> rfl

theorem swap_eq (v : Byte) : swap v = BitVec.ofNat 8 (v.toNat % 16 * 16 + v.toNat / 16) := by
  have hdisjoint : v <<< 4 &&& v >>> 4 = 0#8 := by
    ext i hi
    have hhigh (_ : 4 ≤ i) : v.getLsbD (4 + i) = false := BitVec.getLsbD_of_ge v _ (by omega)
    simpa using fun h _ => hhigh h
  rw [swap, ← BitVec.add_eq_or_of_and_eq_zero _ _ hdisjoint]
  apply BitVec.eq_of_toNat_eq
  simp [BitVec.toNat_add, Nat.shiftLeft_eq, Nat.shiftRight_eq_div_pow]
  omega

/-! ### The eight operations -/

theorem ofNat_beq_zero {x : Nat} (hx : x < 256) : (BitVec.ofNat 8 x == 0#8) = decide (x = 0) := by
  rw [Bool.eq_iff_iff, beq_iff_eq, decide_eq_true_iff, ← BitVec.toNat_inj, BitVec.toNat_ofNat, Nat.mod_eq_of_lt hx]
  rfl

theorem shifted_lt (op : RotOp) (v : Byte) (cin : Bool) : (shifted op v.toNat cin.toNat).1 < 256 := by
  have hv := v.isLt
  have hcin := cin.toNat_lt
  cases op with
  | sra => simp only [shifted]; split <;> omega
  | _ => simp only [shifted]; omega

/-- An operation's result and carry are `shifted`'s; Z is set iff the result is 0, N and H are 0 (R138). -/
theorem rotResult_eq (op : RotOp) (v : Byte) (cin : Bool) :
    rotResult op v cin = (BitVec.ofNat 8 (shifted op v.toNat cin.toNat).1,
      ⟨decide ((shifted op v.toNat cin.toNat).1 = 0), false, false, (shifted op v.toNat cin.toNat).2⟩) := by
  rw [← ofNat_beq_zero (shifted_lt op v cin)]
  cases op with
  | rlc => simp only [rotResult, rlc, shifted, shiftLeft_or_low, getLsbD_seven, toNat_decide_high]
  | rrc => simp only [rotResult, rrc, shifted, shiftRight_or_high, getLsbD_zero, toNat_decide_odd]
  | rl => simp only [rotResult, rl, shifted, shiftLeft_or_low, getLsbD_seven]
  | rr => simp only [rotResult, rr, shifted, shiftRight_or_high, getLsbD_zero]
  | sla => simp only [rotResult, sla, shifted, shiftLeft_one_eq, getLsbD_seven]
  | sra =>
    have hsign : (if v.toNat ≥ 128 then 128 else 0) = 128 * (v.getLsbD 7).toNat := by
      rw [getLsbD_seven]
      split <;> simp [*]
    simp only [rotResult, sra, shifted, and_sign_bit, shiftRight_or_high, getLsbD_zero, hsign]
  | swap => simp only [rotResult, shifted, swap_eq]
  | srl => simp only [rotResult, srl, shifted, shiftRight_one_eq, getLsbD_zero]

/-- A CB-page operation reads, writes the result and replaces the whole of F; the carry-in is the state's before. -/
theorem rotOperand_eq (s : State) (op : RotOp) (o : Operand8) :
    s.rotOperand op o = { (s.read8 o).2.write8 o (rotResult op (s.read8 o).1 (s.flag .carry)).1 with
      f := (rotResult op (s.read8 o).1 (s.flag .carry)).2.toByte } :=
  writeFlags_eq _ _

/-- Settles O25: every operation writes its operand and the whole of F, with the result and carry of `shifted`. -/
theorem rotateShiftSwapResult : Obligations.RotateShiftSwapResult := by
  intro s op o
  have hexec := exec_rot s op o
  rw [rotOperand_eq, rotResult_eq] at hexec
  exact ⟨_, hexec⟩

end Sys2Proof.Machine
end

section
/-! PROOFS. Control transfer and stack: what the condition unit looks at, and what a pop leaves in its pair
(44_control.md). -/

namespace Sys2Proof.Machine

/-! ### The condition unit -/

/-- Every condition looks at Z or at C and at no other flag (R165). -/
theorem cond_congr {s t : State} (hz : t.flag .zero = s.flag .zero) (hc : t.flag .carry = s.flag .carry) (k : Cond) :
    t.cond k = s.cond k := by
  cases k with
  | nz => exact congrArg not hz
  | z => exact hz
  | nc => exact congrArg not hc
  | c => exact hc

/-- Settles O28: a condition is its flag or the flag's negation, and no condition at all is a satisfied one. -/
theorem conditionUnit : Obligations.ConditionUnit := by
  intro s
  have hnot (b : Bool) : (!b) = true ↔ b = false := iff_of_eq (Bool.not_eq_true' b)
  exact ⟨hnot (s.flag .zero), Iff.rfl, hnot (s.flag .carry), Iff.rfl, rfl, fun t k hz hc => cond_congr hz hc k⟩

/-! ### A pair written from its two bytes -/

@[simp] theorem setBC_joinBytes (s : State) (x y : Byte) : s.setBC (joinBytes x y) = { s with b := x, c := y } := by
  simp [State.setBC]

@[simp] theorem setDE_joinBytes (s : State) (x y : Byte) : s.setDE (joinBytes x y) = { s with d := x, e := y } := by
  simp [State.setDE]

@[simp] theorem setHL_joinBytes (s : State) (x y : Byte) : s.setHL (joinBytes x y) = { s with h := x, l := y } := by
  simp [State.setHL]

@[simp] theorem setAF_joinBytes (s : State) (x y : Byte) :
    s.setAF (joinBytes x y) = { s with a := x, f := y &&& 0xF0#8 } := by
  simp [State.setAF, State.setFlagsValue]

/-! ### What a pop leaves -/

/-- A pop joins the byte at SP, as the low one, with the byte at SP+1, and writes the pair with SP moved (R167). -/
theorem pop_eq (s : State) (p : StackPair) :
    let lo := s.load s.sp
    let hi := lo.2.load (s.sp + 1#16)
    s.pop p = State.setStackPair { hi.2 with sp := s.sp + 2#16 } p (joinBytes hi.1 lo.1) := rfl

/-- Settles O33: the pair takes the two bytes apart again, and for AF the low one is masked on its way into F. -/
theorem popResult : Obligations.PopResult := by
  intro s lo hi t
  have hpop (p : StackPair) : ∃ n, exec (.ofPop p) s = .next ((t.setStackPair p (joinBytes hi.1 lo.1)).advance n) :=
    ⟨_, pop_eq s p ▸ exec_pop s p⟩
  refine ⟨?_, ?_, ?_, ?_⟩
  · simpa only [State.setStackPair, setBC_joinBytes] using hpop .bc
  · simpa only [State.setStackPair, setDE_joinBytes] using hpop .de
  · simpa only [State.setStackPair, setHL_joinBytes] using hpop .hl
  · simpa only [State.setStackPair, setAF_joinBytes] using hpop .af

end Sys2Proof.Machine
end

section
/-! PROOFS. Exceptions: no instruction's meaning ends in a fault or a refusal (60_exceptions.md). -/

namespace Sys2Proof.Machine

/-- PREFIX CB, the form `exec_form` leaves out, answers the state after its second byte's CB row (R209). -/
theorem exec_prefixCb (s : State) (cb : Byte) : exec (.prefixCb cb) s = .next (s.prefixCbEffect cb) := rfl

/-- Every form answers a next state: PREFIX CB its row's, any other its own effect with the cost charged. -/
theorem exec_form_next (s : State) (f : Form) : ∃ t, exec f.instr s = .next t := by
  by_cases hprefix : ∃ cb, f = .prefixCb cb
  · obtain ⟨cb, rfl⟩ := hprefix
    exact ⟨_, exec_prefixCb s cb⟩
  · exact ⟨_, exec_form s f (not_exists.mp hprefix)⟩

/-- Settles O49: every instruction is the instruction of its form, and every form answers a next state (R216). -/
theorem noInstructionRaisesAnException : Obligations.NoInstructionRaisesAnException :=
  fun i s => forall_instr (p := fun j => ∃ t, exec j s = .next t) (exec_form_next s) i

end Sys2Proof.Machine
end

section
/-! PROOFS. Decoding and encoding: what `decode` makes of bytes of each length, and the two directions in which it
agrees with the encoder (30_encoding.md). -/

namespace Sys2Proof

/-! ### Opcodes and lengths -/

theorem byte_cases {p : Byte → Prop} (row : ∀ n, n < 256 → p (BitVec.ofNat 8 n)) (op : Byte) : p op := by
  simpa using row op.toNat op.isLt

theorem lengthOf_cases (sl : Config.StopLength) (op : Byte) :
    lengthOf sl op = 1 ∨ lengthOf sl op = 2 ∨ lengthOf sl op = 3 := by
  cases sl <;> revert op <;> decide

/-! ### What `decode` makes of bytes that hold their instruction -/

theorem decode_one {sl : Config.StopLength} {op : Byte} (hl : lengthOf sl op = 1) (rest : List Byte) :
    decode sl (op :: rest) = .ok (decodeBytes op 0 0, rest) := by
  simp [decode, hl]

theorem decode_two {sl : Config.StopLength} {op : Byte} (hl : lengthOf sl op = 2) (b2 : Byte) (rest : List Byte) :
    decode sl (op :: b2 :: rest) = .ok (decodeBytes op b2 0, rest) := by
  simp [decode, hl]

theorem decode_three {sl : Config.StopLength} {op : Byte} (hl : lengthOf sl op = 3) (b2 b3 : Byte)
    (rest : List Byte) : decode sl (op :: b2 :: b3 :: rest) = .ok (decodeBytes op b2 b3, rest) := by
  simp [decode, hl]

theorem decode_truncated {sl : Config.StopLength} {op : Byte} {rest : List Byte}
    (hshort : (op :: rest).length < lengthOf sl op) : decode sl (op :: rest) = .error .truncated := by
  obtain hl | hl | hl := lengthOf_cases sl op
  · simp [hl] at hshort
  · cases rest with
    | nil => simp [decode, hl]
    | cons b2 rest => simp [hl] at hshort
  · match rest with
    | [] => simp [decode, hl]
    | [b2] => simp [decode, hl]
    | b2 :: b3 :: rest =>
      rw [hl, List.length_cons, List.length_cons, List.length_cons] at hshort
      omega

/-- What decodes is the instruction of its first three bytes, of which it takes as many as the first one says. -/
theorem decode_ok {sl : Config.StopLength} {bs rest : List Byte} {i : Instr} (h : decode sl bs = .ok (i, rest)) :
    ∃ op b2 b3, i = decodeBytes op b2 b3 ∧ bs = [op, b2, b3].take (lengthOf sl op) ++ rest := by
  cases bs with
  | nil => cases h
  | cons op tail =>
    obtain hl | hl | hl := lengthOf_cases sl op
    · rw [decode_one hl] at h
      cases h
      exact ⟨op, 0, 0, rfl, by simp [hl]⟩
    · cases tail with
      | nil => simp [decode, hl] at h
      | cons b2 tail =>
        rw [decode_two hl] at h
        cases h
        exact ⟨op, b2, 0, rfl, by simp [hl]⟩
    · match tail with
      | [] => simp [decode, hl] at h
      | [b2] => simp [decode, hl] at h
      | b2 :: b3 :: tail =>
        rw [decode_three hl] at h
        cases h
        exact ⟨op, b2, b3, rfl, by simp [hl]⟩

/-! ### Decoding what was encoded -/

/-- An opcode with a 16-bit immediate decodes to the row's instruction on the immediate, joined again. -/
theorem decode_bytes16 {sl : Config.StopLength} {op : Byte} {row : Word → Instr} (hl : lengthOf sl op = 3)
    (hrow : ∀ b2 b3, decodeBytes op b2 b3 = row (joinBytes b3 b2)) (nn : Word) (rest : List Byte) :
    decode sl (bytes16 op nn ++ rest) = .ok (row nn, rest) := by
  refine (decode_three hl (loByte nn) (hiByte nn) rest).trans ?_
  rw [hrow, Machine.joinBytes_hi_lo]

/-- Settles O42: row by row. A row without a 16-bit immediate evaluates; STOP does for either length. -/
theorem decodeOfEncode : Obligations.DecodeOfEncode := by
  intro sl i rest hwf
  cases i with
  | prefixCb cb => cases hwf
  | stop => cases sl <;> rfl
  | ld_BC_d16 nn | ld_DE_d16 nn | ld_HL_d16 nn | ld_SP_d16 nn | ld_atA16_SP nn | ld_atA16_A nn
  | ld_A_atA16 nn | jp_a16 nn | jp_NZ_a16 nn | jp_Z_a16 nn | jp_NC_a16 nn | jp_C_a16 nn
  | call_a16 nn | call_NZ_a16 nn | call_Z_a16 nn | call_NC_a16 nn | call_C_a16 nn =>
    exact decode_bytes16 rfl (fun _ _ => rfl) nn rest
  | _ => rfl

/-! ### Encoding what was decoded -/

theorem encode_decodeCb (sl : Config.StopLength) (cb : Byte) : encode sl (decodeCb cb) = bytesCb cb := by
  cases sl <;> revert cb <;> decide

theorem decodeCb_wellFormed (cb : Byte) : (decodeCb cb).wellFormed = true := by
  revert cb
  decide

theorem bytes16_joinBytes (op b2 b3 : Byte) : bytes16 op (joinBytes b3 b2) = [op, b2, b3] := by
  simp [bytes16]

/-- Row by row of the primary table: an opcode's instruction has that opcode and its own immediate bytes. A row without
a 16-bit immediate evaluates, one with takes the word apart again; STOP alone drops a byte (R212). -/
theorem encode_decodePrimary (sl : Config.StopLength) {op : Byte} (hstop : op ≠ 0x10#8) (b2 b3 : Byte) :
    encode sl (decodePrimary op b2 b3) = [op, b2, b3].take (lengthOf sl op) := by
  induction op using byte_cases with
  | row n hn => interval_cases n <;> first | rfl | exact bytes16_joinBytes _ b2 b3 | exact absurd rfl hstop

theorem encode_decodeBytes (sl : Config.StopLength) {op : Byte} (hstop : op ≠ 0x10#8) (b2 b3 : Byte) :
    encode sl (decodeBytes op b2 b3) = [op, b2, b3].take (lengthOf sl op) := by
  by_cases hcb : op = 0xCB#8
  · subst hcb
    exact encode_decodeCb sl b2
  · rw [decodeBytes, if_neg hcb]
    exact encode_decodePrimary sl hstop b2 b3

theorem decodeBytes_stop (b2 b3 : Byte) : decodeBytes 0x10#8 b2 b3 = .stop := rfl

theorem head_of_encode_decodeBytes {sl : Config.StopLength} {op b2 b3 x : Byte} {xs : List Byte} (hstop : op ≠ 0x10#8)
    (h : encode sl (decodeBytes op b2 b3) = x :: xs) : op = x := by
  rw [encode_decodeBytes sl hstop] at h
  obtain hl | hl | hl := lengthOf_cases sl op <;> simp_all

theorem decodeBytes_eq_stop {op b2 b3 : Byte} : decodeBytes op b2 b3 = .stop ↔ op = 0x10#8 := by
  refine ⟨fun h => ?_, fun h => h ▸ decodeBytes_stop b2 b3⟩
  by_contra hstop
  exact hstop (head_of_encode_decodeBytes (sl := .one) hstop (congrArg (encode .one) h))

theorem eq_prefixCb_of_not_wellFormed {i : Instr} (h : ¬i.wellFormed = true) : ∃ cb, i = .prefixCb cb := by
  cases i with
  | prefixCb cb => exact ⟨cb, rfl⟩
  | _ => exact absurd rfl h

/-- The page switch alone would encode to 0xCB, and that opcode selects the CB page (R83). -/
theorem decodeBytes_wellFormed (op b2 b3 : Byte) : (decodeBytes op b2 b3).wellFormed = true := by
  by_contra hwf
  obtain ⟨cb, h⟩ := eq_prefixCb_of_not_wellFormed hwf
  have hstop : op ≠ 0x10#8 := by
    rintro rfl
    cases h
  obtain rfl : op = 0xCB#8 := head_of_encode_decodeBytes (sl := .one) hstop (congrArg (encode .one) h)
  exact hwf (decodeCb_wellFormed b2)

theorem length_decodeBytes (sl : Config.StopLength) (op b2 b3 : Byte) :
    (decodeBytes op b2 b3).length sl = lengthOf sl op := by
  by_cases hstop : op = 0x10#8
  · subst hstop
    cases sl <;> rfl
  · rw [Instr.length, encode_decodeBytes sl hstop]
    obtain hl | hl | hl := lengthOf_cases sl op <;> simp [hl]

/-- Settles O43: what decodes is the instruction of its opcode, which encodes to that opcode and its immediate. -/
theorem encodeOfDecode : Obligations.EncodeOfDecode := by
  intro sl bs rest i h
  obtain ⟨op, b2, b3, rfl, rfl⟩ := decode_ok h
  refine ⟨decodeBytes_wellFormed op b2 b3, fun hne => ?_, fun heq => ?_⟩
  · rw [encode_decodeBytes sl (mt decodeBytes_eq_stop.mpr hne)]
  · obtain rfl := decodeBytes_eq_stop.mp heq
    cases sl with
    | one => exact ⟨[], rfl, rfl⟩
    | two => exact ⟨[b2], rfl, rfl⟩

/-- Settles O44: three lengths, and for each what `decode` makes of bytes that hold it and of bytes that do not. -/
theorem decoderIsTotal : Obligations.DecoderIsTotal := by
  intro sl
  refine ⟨fun op rest hlen => ?_, fun op => ?_, rfl, fun op rest => decode_truncated⟩
  · obtain hl | hl | hl := lengthOf_cases sl op
    · exact ⟨_, hl ▸ decode_one hl rest, length_decodeBytes sl op 0 0⟩
    · match rest with
      | [] => simp [hl] at hlen
      | b2 :: rest => exact ⟨_, hl ▸ decode_two hl b2 rest, length_decodeBytes sl op b2 0⟩
    · match rest with
      | [] => simp [hl] at hlen
      | [b2] => simp [hl] at hlen
      | b2 :: b3 :: rest => exact ⟨_, hl ▸ decode_three hl b2 b3 rest, length_decodeBytes sl op b2 b3⟩
  · obtain hl | hl | hl := lengthOf_cases sl op <;> simp [hl]

end Sys2Proof
end

section
/-! PROOFS. The dispatch: the 512 slots, the CB row behind its page switch, and the instruction a step fetches
(30_encoding.md sections 3 and 4, 46_misc.md sections 1 and 2). -/

namespace Sys2Proof.Machine

open Sys2Proof.Claims

/-! ### The slots -/

/-- The instruction a slot holds, its immediate 0 (R84). -/
def slotInstr : Slot → Instr
  | ⟨.primary, op⟩ => decodePrimary op 0 0
  | ⟨.cb, cb⟩ => decodeCb cb

theorem slotOf_decodeCb (cb : Byte) : slotOf (decodeCb cb) = ⟨.cb, cb⟩ := by
  revert cb
  decide

theorem slotOf_slotInstr (sl : Slot) : slotOf (slotInstr sl) = sl := by
  obtain ⟨page, op⟩ := sl
  cases page with
  | primary => revert op; decide
  | cb => exact slotOf_decodeCb op

/-- Row by row: the mnemonic is that of the slot's instruction, whatever the immediate. -/
theorem mnemonicOf_eq (i : Instr) : mnemonicOf i = mnemonicOf (slotInstr (slotOf i)) := by
  cases i <;> rfl

/-- Settles O45: a slot's own instruction has that slot, and every instruction has its slot's mnemonic. -/
theorem everySlotHoldsOneInstruction : Obligations.EverySlotHoldsOneInstruction :=
  ⟨fun sl => ⟨slotInstr sl, slotOf_slotInstr sl⟩,
    fun i j hslot => by rw [mnemonicOf_eq i, mnemonicOf_eq j, hslot]⟩

/-- Settles O46: each word evaluates. -/
theorem wordsDecodeAsTheMapsSay : Obligations.WordsDecodeAsTheMapsSay := by
  unfold Obligations.WordsDecodeAsTheMapsSay
  decide

/-! ### The CB row behind the page switch -/

theorem bits_cases (x : BitVec 2) : x = 0#2 ∨ x = 1#2 ∨ x = 2#2 ∨ x = 3#2 := by
  revert x
  decide

/-- Both sides select by the same fields of the second byte, and the row's slot names that byte (R72, R209). -/
theorem exec_prefixCb_eq (s : State) (cb : Byte) : exec (.prefixCb cb) s = exec (decodeCb cb) s := by
  rw [exec_prefixCb]
  have hslot := slotOf_decodeCb cb
  obtain hx | hx | hx | hx := bits_cases (cb.extractLsb' 6 2) <;>
    simp only [decodeCb, State.prefixCbEffect, hx] at hslot ⊢
  · rw [exec_rot, hslot]
  · rw [exec_bit, hslot]
  · rw [exec_res, hslot]
  · rw [exec_set, hslot]

/-- Settles O41: the page switch runs its second byte's row, which answers a next state like every instruction. -/
theorem prefixCbRunsTheCbRow : Obligations.PrefixCbRunsTheCbRow := fun s cb =>
  ⟨exec_prefixCb_eq s cb, _, exec_prefixCb s cb⟩

/-- The page switch runs the instruction its second byte selects; every other instruction is itself. -/
theorem exec_effective (i : Instr) (s : State) : exec i s = exec i.effective s := by
  cases i with
  | prefixCb cb => exact exec_prefixCb_eq s cb
  | _ => rfl

theorem effective_wellFormed (i : Instr) : i.effective.wellFormed = true := by
  cases i with
  | prefixCb cb => exact decodeCb_wellFormed cb
  | _ => rfl

theorem effective_form_ne_prefixCb (i : Instr) (cb : Byte) : i.effective.form ≠ .prefixCb cb := by
  intro h
  have hwf := effective_wellFormed i
  rw [← form_instr i.effective, h] at hwf
  cases hwf

/-- Everything an instruction does: the effect of its form and its cost, for the page switch those of its CB row. -/
theorem exec_eq (i : Instr) (s : State) :
    exec i s = .next ((formEffect s i.effective.form).advance (formCost s i.effective.form)) := by
  rw [exec_effective, ← exec_form s i.effective.form (effective_form_ne_prefixCb i), form_instr]

/-! ### The step -/

theorem step_eq_exec {s : State} (h : s.isStuck = false) :
    step s = exec s.beginDispatch.fetchInstr.1
      (s.beginDispatch.fetchInstr.2.record s.beginDispatch.fetchInstr.1) := by
  simp [step, h]

theorem step_eq_stuck {s : State} (h : s.isStuck = true) : step s = .fault .stuck := by
  simp [step, h]

theorem isStuck_iff (s : State) : s.isStuck = true ↔ s.params.illegalMode = .lock ∧ s.locked = true := by
  simp [State.isStuck]

/-- Settles O50: a dispatch that is not STUCK is `exec` of what it fetched, and `exec` answers a next state. -/
theorem stepStopsOnlyWhenStuck : Obligations.StepStopsOnlyWhenStuck := by
  refine fun s => ⟨fun h => step_eq_stuck ((isStuck_iff s).mpr h), fun h => ?_⟩
  have hstuck : s.isStuck = false := Bool.eq_false_iff.mpr (mt (isStuck_iff s).mp h)
  exact ⟨_, (step_eq_exec hstuck).trans (exec_eq _ _)⟩

/-! ### The fetch, by the length its first byte gives -/

theorem fetchInstr_one {s : State} (hl : lengthOf s.params.stopLength s.fetch8.1 = 1) :
    s.fetchInstr = (decodeBytes s.fetch8.1 0 0, s.fetch8.2) := by
  simp [State.fetchInstr, State.fetchIf, hl]

theorem fetchInstr_two {s : State} (hl : lengthOf s.params.stopLength s.fetch8.1 = 2) :
    s.fetchInstr = (decodeBytes s.fetch8.1 s.fetch8.2.fetch8.1 0, s.fetch8.2.fetch8.2) := by
  simp [State.fetchInstr, State.fetchIf, hl]

theorem fetchInstr_three {s : State} (hl : lengthOf s.params.stopLength s.fetch8.1 = 3) :
    s.fetchInstr = (decodeBytes s.fetch8.1 s.fetch8.2.fetch8.1 s.fetch8.2.fetch8.2.fetch8.1,
      s.fetch8.2.fetch8.2.fetch8.2) := by
  simp [State.fetchInstr, State.fetchIf, hl]

theorem fetch8_flat {s : State} (h : s.params.bus = .flat) :
    s.fetch8 = (s.mem.read s.pc.toNat, { s with pc := s.pc + 1#16 }) := by
  rw [State.fetch8, load_flat s s.pc h]
  rfl

theorem fetch8_external {s : State} (h : s.params.bus = .external) :
    ∃ v, s.fetch8 = (v, { s with pc := s.pc + 1#16, busLog := .read s.pc v :: s.busLog }) := by
  rw [State.fetch8, load_external s s.pc h]
  exact ⟨_, rfl⟩

theorem fetchInstr_flat {s : State} {i : Instr} {rest : List Byte} (hbus : s.params.bus = .flat)
    (hdec : decode s.params.stopLength (bytesAt s.mem s.pc) = .ok (i, rest)) :
    s.fetchInstr = (i, { s with pc := s.pc + BitVec.ofNat 16 (i.length s.params.stopLength) }) := by
  have h1 := fetch8_flat hbus
  have h2 := fetch8_flat (s := { s with pc := s.pc + 1#16 }) hbus
  have h3 := fetch8_flat (s := { s with pc := s.pc + 1#16 + 1#16 }) hbus
  obtain hl | hl | hl := lengthOf_cases s.params.stopLength (s.mem.read s.pc.toNat)
  · rw [bytesAt, decode_one hl] at hdec
    cases hdec
    rw [fetchInstr_one (by rwa [h1]), h1, length_decodeBytes, hl]
  · rw [bytesAt, decode_two hl] at hdec
    cases hdec
    rw [fetchInstr_two (by rwa [h1]), h1, h2, length_decodeBytes, hl, BitVec.add_assoc]
    rfl
  · rw [bytesAt, decode_three hl] at hdec
    cases hdec
    rw [fetchInstr_three (by rwa [h1]), h1, h2, h3, length_decodeBytes, hl, BitVec.add_assoc, BitVec.add_assoc]
    rfl

theorem decode_wellFormed {sl : Config.StopLength} {bs rest : List Byte} {i : Instr}
    (h : decode sl bs = .ok (i, rest)) : i.wellFormed = true := by
  obtain ⟨op, b2, b3, rfl, -⟩ := decode_ok h
  exact decodeBytes_wellFormed op b2 b3

/-- Settles O47: on a flat bus the bytes fetched are those at PC, so the instruction fetched is what they decode to. -/
theorem stepRunsTheDecodedInstruction : Obligations.StepRunsTheDecodedInstruction := by
  intro s i rest hstuck hbus hdec
  have hfetch : s.beginDispatch.fetchInstr = _ := fetchInstr_flat hbus hdec
  refine ⟨decode_wellFormed hdec, ?_⟩
  rw [step_eq_exec hstuck, hfetch]
  rfl

/-- On an external bus the fetch reads as many bytes as the first one says, and they decode to what it fetched. -/
theorem fetchInstr_external {s : State} (hbus : s.params.bus = .external) :
    ∃ bs, decode s.params.stopLength bs = .ok (s.fetchInstr.1, []) ∧ s.fetchInstr.2 = { s with
      pc := s.pc + BitVec.ofNat 16 bs.length, busLog := (reads s.pc bs).reverse ++ s.busLog } := by
  obtain ⟨v1, h1⟩ := fetch8_external hbus
  obtain ⟨v2, h2⟩ := fetch8_external (s := { s with
    pc := s.pc + 1#16, busLog := .read s.pc v1 :: s.busLog }) hbus
  obtain ⟨v3, h3⟩ := fetch8_external (s := { s with
    pc := s.pc + 1#16 + 1#16, busLog := .read (s.pc + 1#16) v2 :: .read s.pc v1 :: s.busLog }) hbus
  obtain hl | hl | hl := lengthOf_cases s.params.stopLength v1
  · rw [fetchInstr_one (by rwa [h1]), h1]
    exact ⟨[v1], decode_one hl [], rfl⟩
  · rw [fetchInstr_two (by rwa [h1]), h1, h2]
    refine ⟨[v1, v2], decode_two hl v2 [], ?_⟩
    rw [BitVec.add_assoc]
    rfl
  · rw [fetchInstr_three (by rwa [h1]), h1, h2, h3]
    refine ⟨[v1, v2, v3], decode_three hl v2 v3 [], ?_⟩
    simp only [reads, BitVec.add_assoc]
    rfl

/-- Settles O48: the bytes read are one instruction's, each an event of the bus. -/
theorem stepOnExternalBus : Obligations.StepOnExternalBus := by
  intro s hstuck hbus
  obtain ⟨bs, hdec, hfetch⟩ := fetchInstr_external (s := s.beginDispatch) hbus
  refine ⟨bs, _, hdec, ?_⟩
  rw [step_eq_exec hstuck, hfetch]
  rfl

end Sys2Proof.Machine
end

section
/-! PROOFS. 8-bit arithmetic: the flags read back, subtraction, comparison, DEC, DAA and the accumulator's complement
and carry instructions (40_alu8.md). -/

namespace Sys2Proof.Machine

open Sys2Proof.Claims

/-! ### The flags that are read back -/

/-- A flag of a set of flags, by its identifier. -/
def flagOf (fl : FlagSet) : FlagId → Bool
  | .zero => fl.z
  | .subtract => fl.n
  | .halfCarry => fl.h
  | .carry => fl.c

theorem getLsbD_toByte (fl : FlagSet) (k : FlagId) : fl.toByte.getLsbD k.position = flagOf fl k := by
  obtain ⟨hz, hn, hh, hc⟩ := toByte_bits fl
  cases k with
  | zero => exact hz
  | subtract => exact hn
  | halfCarry => exact hh
  | carry => exact hc

theorem getLsbD_withFlags (f : Byte) (z n h c : Bool) (k : FlagId) :
    (withFlags f z n h c).getLsbD k.position = flagOf ⟨z, n, h, c⟩ k := by
  have hmask : (0x0F#8).getLsbD k.position = false := by cases k <;> rfl
  rw [withFlags, BitVec.getLsbD_or, BitVec.getLsbD_and, hmask, Bool.and_false, Bool.or_false, getLsbD_toByte]

theorem toByte_toNat (fl : FlagSet) :
    fl.toByte.toNat = 128 * fl.z.toNat + 64 * fl.n.toNat + 32 * fl.h.toNat + 16 * fl.c.toNat := by
  obtain ⟨z, n, h, c⟩ := fl
  revert z n h c
  decide

/-- Settles O1: F's four high bits are the flags, and `writeFlags` replaces F by the byte that shows them. -/
theorem flagsSitInBitsSevenToFour : Obligations.FlagsSitInBitsSevenToFour := by
  intro z n h c s
  refine ⟨rfl, rfl, rfl, rfl, ?_⟩
  have hread (k : FlagId) : State.flag { s with f := FlagSet.toByte ⟨z, n, h, c⟩ } k = flagOf ⟨z, n, h, c⟩ k :=
    getLsbD_toByte _ k
  rw [writeFlags_eq]
  exact ⟨rfl, hread .zero, hread .subtract, hread .halfCarry, hread .carry, toByte_toNat _⟩

/-! ### Subtraction and comparison -/

theorem applyAlu_sub (s : State) (v : Byte) : s.applyAlu .sub v = afterSub s v false := by
  rw [applyAlu_eq_of_ne_cp s (by decide), aluResult, sub8_eq]
  rfl

theorem applyAlu_sbc (s : State) (v : Byte) : s.applyAlu .sbc v = afterSub s v (s.flag .carry) := by
  rw [applyAlu_eq_of_ne_cp s (by decide), aluResult, sub8_eq]
  rfl

/-- CP replaces F alone (R117). -/
theorem applyAlu_cp (s : State) (v : Byte) : s.applyAlu .cp v = { s with f := borrowFlags s.a v false } := by
  have hcp : s.applyAlu .cp v = s.writeFlags (sub8 s.a v false).2 := rfl
  rw [hcp, writeFlags_eq, sub8_eq]
  rfl

/-- Settles O13: SUB and SBC are `sub8` without and with the carry as borrow-in. -/
theorem subAndSbcResult : Obligations.SubAndSbcResult := by
  refine ⟨fun s o => ?_, fun s v => ?_, fun s o => ?_, fun s v => ?_⟩
  · simpa only [applyAlu_sub] using exec_alu_next s .sub o
  · simpa only [applyAlu_sub] using exec_aluImm_next s .sub v
  · simpa only [applyAlu_sbc, read8_flag] using exec_alu_next s .sbc o
  · simpa only [applyAlu_sbc] using exec_aluImm_next s .sbc v

/-- Settles O14: CP keeps the flags of the difference and drops its value; the operand's read leaves A alone. -/
theorem compareWritesOnlyFlags : Obligations.CompareWritesOnlyFlags := by
  refine ⟨fun s o => ?_, fun s v => ?_⟩
  · simpa only [applyAlu_cp, read8_a] using exec_alu_next s .cp o
  · simpa only [applyAlu_cp] using exec_aluImm_next s .cp v

/-! ### DEC -/

theorem decOperand_eq (s : State) (o : Operand8) :
    s.decOperand o = { (s.read8 o).2.write8 o (BitVec.ofNat 8 ((s.read8 o).1.toNat + 255)) with
      f := withFlags s.f (decide ((s.read8 o).1.toNat = 1)) true (decide ((s.read8 o).1.toNat % 16 = 0))
        (s.flag .carry) } := by
  simp only [State.decOperand, dec8_eq, writeZNH_eq, write8_flag, read8_flag, write8_f, read8_f, withFlags]

/-- Settles O17: by what DEC does to its operand and F. -/
theorem dec8Result : Obligations.Dec8Result := fun s o => ⟨_, decOperand_eq s o ▸ exec_dec s o⟩

/-! ### DAA -/

/-- The two corrections of R124, said once for both directions: after a subtraction the digits are not looked at. -/
theorem daaResult_eq (a : Byte) (n h c : Bool) :
    daaResult a n h c =
      (BitVec.ofNat 8 (if n then a.toNat + 256 -
          ((if c || (!n && decide (a.toNat > 0x99)) then 0x60 else 0) +
            (if h || (!n && decide (a.toNat % 16 > 9)) then 0x06 else 0))
        else a.toNat +
          ((if c || (!n && decide (a.toNat > 0x99)) then 0x60 else 0) +
            (if h || (!n && decide (a.toNat % 16 > 9)) then 0x06 else 0))),
        c || (!n && decide (a.toNat > 0x99))) := by
  revert a n h c
  decide

/-- DAA writes A and Z, H and C one by one: N is kept (R124). -/
theorem daa_eq (s : State) :
    s.daa = { s with
      a := (daaResult s.a (s.flag .subtract) (s.flag .halfCarry) (s.flag .carry)).1
      f := withFlags s.f ((daaResult s.a (s.flag .subtract) (s.flag .halfCarry) (s.flag .carry)).1 == 0#8)
        (s.flag .subtract) false (daaResult s.a (s.flag .subtract) (s.flag .halfCarry) (s.flag .carry)).2 } :=
  congrArg (fun f => { s with
    a := (daaResult s.a (s.flag .subtract) (s.flag .halfCarry) (s.flag .carry)).1, f := f }) (putBit_zhc s.f _ _ _)

theorem exec_daa (s : State) : exec .daa s = .next (s.daa.advance (s.cost ⟨.primary, 0x27⟩ 1)) := rfl

/-! ### DAA on two-digit decimal numbers -/

theorem bcd_toNat {x : Nat} (hx : x < 100) : (bcd x).toNat = x / 10 * 16 + x % 10 := by
  simp only [bcd, BitVec.toNat_ofNat]
  omega

theorem bcd_digits {a b : Nat} (ha : a ≤ 9) (hb : b ≤ 9) : (bcd (10 * a + b)).toNat = 16 * a + b := by
  simp only [bcd, BitVec.toNat_ofNat]
  omega

theorem exists_digits {x : Nat} (hx : x < 100) : ∃ a b, a ≤ 9 ∧ b ≤ 9 ∧ x = 10 * a + b :=
  ⟨x / 10, x % 10, by omega, by omega, by omega⟩

/-- With `p` the sum of the high digits and `q` that of the low ones: the test for the high correction finds the decimal
carry, and the two corrections leave the decimal digits. -/
theorem decimal_sum : ∀ p < 19, ∀ q < 19,
    (16 * p + q > 255 ∨ (16 * p + q) % 256 > 0x99 ↔ 10 * p + q ≥ 100) ∧
    ((16 * p + q) % 256 + ((if 10 * p + q ≥ 100 then 0x60 else 0) + (if q ≥ 10 then 0x06 else 0))) % 256 =
      (10 * p + q) % 100 / 10 * 16 + (10 * p + q) % 100 % 10 := by
  decide

/-- The same for differences, each digit's taken from 9 so that none is negative. -/
theorem decimal_difference : ∀ p < 19, ∀ q < 19,
    ((16 * p + q + 359) % 256 + 256 - ((if 10 * p + q < 99 then 0x60 else 0) + (if q < 9 then 0x06 else 0))) % 256 =
      (10 * p + q + 1) % 100 / 10 * 16 + (10 * p + q + 1) % 100 % 10 := by
  decide

/-- DAA after an addition of two-digit numbers: a digit sum over 9 is corrected by 6 and carries (R124). -/
theorem daaResult_add8_bcd {x y : Nat} (hx : x < 100) (hy : y < 100) :
    daaResult (add8 (bcd x) (bcd y) false).1 false (add8 (bcd x) (bcd y) false).2.h (add8 (bcd x) (bcd y) false).2.c =
      (bcd ((x + y) % 100), decide (x + y ≥ 100)) := by
  obtain ⟨a, b, ha, hb, rfl⟩ := exists_digits hx
  obtain ⟨c, d, hc, hd, rfl⟩ := exists_digits hy
  have hbin : 16 * a + b + (16 * c + d) = 16 * (a + c) + (b + d) := by omega
  have hdec : 10 * a + b + (10 * c + d) = 10 * (a + c) + (b + d) := by omega
  obtain ⟨hhigh, hdigits⟩ := decimal_sum (a + c) (by omega) (b + d) (by omega)
  have hlow : (16 * a + b) % 16 + (16 * c + d) % 16 > 15 ∨ (16 * (a + c) + (b + d)) % 256 % 16 > 9 ↔ b + d ≥ 10 := by
    omega
  rw [add8_eq, daaResult_eq]
  simp only [BitVec.toNat_ofNat, bcd_digits, ha, hb, hc, hd, hbin, hdec, Bool.not_false, Bool.true_and,
    Bool.false_eq_true, if_false, Bool.toNat_false, Nat.add_zero, decide_eq_true_eq, hhigh, hlow,
    Nat.reducePow, ← Bool.decide_or]
  refine Prod.ext (BitVec.eq_of_toNat_eq ?_) rfl
  rw [BitVec.toNat_ofNat, bcd_toNat (Nat.mod_lt _ (by decide))]
  exact hdigits

/-- DAA after a subtraction of two-digit numbers: a digit that borrowed is corrected by 6 (R124, D15). -/
theorem daaResult_sub8_bcd {x y : Nat} (hx : x < 100) (hy : y < 100) :
    daaResult (sub8 (bcd x) (bcd y) false).1 true (sub8 (bcd x) (bcd y) false).2.h (sub8 (bcd x) (bcd y) false).2.c =
      (bcd ((x + 100 - y) % 100), decide (x < y)) := by
  obtain ⟨a, b, ha, hb, rfl⟩ := exists_digits hx
  obtain ⟨c, d, hc, hd, rfl⟩ := exists_digits hy
  have hbin : 16 * a + b + 512 - (16 * c + d) = 16 * (a + 9 - c) + (b + 9 - d) + 359 := by omega
  have hdec : 10 * a + b + 100 - (10 * c + d) = 10 * (a + 9 - c) + (b + 9 - d) + 1 := by omega
  have hhigh : 16 * a + b < 16 * c + d ↔ 10 * (a + 9 - c) + (b + 9 - d) < 99 := by omega
  have hborrow : 10 * a + b < 10 * c + d ↔ 10 * (a + 9 - c) + (b + 9 - d) < 99 := by omega
  have hlow : (16 * a + b) % 16 < (16 * c + d) % 16 ↔ b + 9 - d < 9 := by omega
  have hdigits := decimal_difference (a + 9 - c) (by omega) (b + 9 - d) (by omega)
  rw [sub8_eq, daaResult_eq]
  simp only [BitVec.toNat_ofNat, bcd_digits, ha, hb, hc, hd, hbin, hdec, Bool.not_true, Bool.false_and, Bool.or_false,
    if_true, Bool.toNat_false, Nat.add_zero, Nat.sub_zero, decide_eq_true_eq, hhigh, hborrow, hlow, Nat.reducePow]
  refine Prod.ext (BitVec.eq_of_toNat_eq ?_) rfl
  rw [BitVec.toNat_ofNat, bcd_toNat (Nat.mod_lt _ (by decide))]
  exact hdigits

/-- DAA run where the flags are those an instruction has just written. -/
theorem daa_of_flags {t : State} {fl : FlagSet} (hf : t.f = fl.toByte) :
    t.daa.a = (daaResult t.a fl.n fl.h fl.c).1 ∧ t.daa.flag .carry = (daaResult t.a fl.n fl.h fl.c).2 := by
  have hflag (k : FlagId) : t.flag k = flagOf fl k := by rw [State.flag, hf, getLsbD_toByte]
  have hcarry (f : Byte) (z n h c : Bool) : State.flag { t with f := withFlags f z n h c } .carry = c :=
    getLsbD_withFlags f z n h c .carry
  rw [daa_eq, hflag, hflag, hflag]
  exact ⟨rfl, hcarry ..⟩

/-- Settles O19: the flags of the addition or subtraction tell DAA which digits carried or borrowed. -/
theorem daaGivesDecimalResult : Obligations.DaaGivesDecimalResult := by
  intro s x y hx hy ha
  refine ⟨⟨_, _, exec_aluImm s .add (bcd y), exec_daa _, ?_⟩, ⟨_, _, exec_aluImm s .sub (bcd y), exec_daa _, ?_⟩⟩
  · rw [applyAlu_eq_of_ne_cp s (by decide), ha]
    have hdaa := daaResult_add8_bcd hx hy
    obtain ⟨hval, hcarry⟩ := daa_of_flags (t := State.advance { s with
      a := (add8 (bcd x) (bcd y) false).1, f := (add8 (bcd x) (bcd y) false).2.toByte } _) rfl
    exact ⟨hval.trans (congrArg Prod.fst hdaa), hcarry.trans (congrArg Prod.snd hdaa)⟩
  · rw [applyAlu_eq_of_ne_cp s (by decide), ha]
    have hdaa := daaResult_sub8_bcd hx hy
    obtain ⟨hval, hcarry⟩ := daa_of_flags (t := State.advance { s with
      a := (sub8 (bcd x) (bcd y) false).1, f := (sub8 (bcd x) (bcd y) false).2.toByte } _) rfl
    exact ⟨hval.trans (congrArg Prod.fst hdaa), hcarry.trans (congrArg Prod.snd hdaa)⟩

/-! ### CPL, SCF and CCF -/

theorem complement_eq (a : Byte) : ~~~a = BitVec.ofNat 8 (255 - a.toNat) := by
  apply BitVec.eq_of_toNat_eq
  rw [BitVec.toNat_not, BitVec.toNat_ofNat]
  omega

theorem cpl_eq (s : State) :
    s.cpl = { s with
      a := BitVec.ofNat 8 (255 - s.a.toNat), f := withFlags s.f (s.flag .zero) true true (s.flag .carry) } := by
  rw [← complement_eq]
  exact congrArg (fun f => { s with a := ~~~s.a, f := f }) (putBit_nh s.f true true)

theorem scf_eq (s : State) : s.scf = { s with f := withFlags s.f (s.flag .zero) false false true } :=
  congrArg (fun f => { s with f := f }) (putBit_nhc s.f false false true)

theorem ccf_eq (s : State) : s.ccf = { s with f := withFlags s.f (s.flag .zero) false false (!s.flag .carry) } :=
  congrArg (fun f => { s with f := f }) (putBit_nhc s.f false false (!s.flag .carry))

/-- Settles O20: by what each of the three does to A and F. -/
theorem cplScfCcfResult : Obligations.CplScfCcfResult := by
  intro s
  have hcpl : exec .cpl s = .next (s.cpl.advance _) := exec_form s .cpl (by simp)
  have hscf : exec .scf s = .next (s.scf.advance _) := exec_form s .scf (by simp)
  have hccf : exec .ccf s = .next (s.ccf.advance _) := exec_form s .ccf (by simp)
  rw [cpl_eq] at hcpl
  rw [scf_eq] at hscf
  rw [ccf_eq] at hccf
  exact ⟨⟨_, hcpl⟩, ⟨_, hscf⟩, _, hccf⟩

end Sys2Proof.Machine
end

section
/-! PROOFS. DAA's statement, outside `Sys2Proof.Machine`, where `daaResult` is the model's function. -/

namespace Sys2Proof

/-- Settles O18: the corrections of `daaResult` on numbers, and the flags DAA writes. -/
theorem daaResult : Obligations.DaaResult := by
  intro s high low k r
  have h := Machine.exec_daa s
  rw [Machine.daa_eq, Machine.daaResult_eq] at h
  exact ⟨_, h⟩

end Sys2Proof
end

section
/-! PROOFS. 16-bit arithmetic: ADD HL, INC and DEC of a pair, and the SP displacement (41_alu16.md). -/

namespace Sys2Proof.Machine

open Sys2Proof.Claims

/-! ### 16-bit sums -/

/-- The bit at which two operands and their sum disagree in parity tells the carry into it. -/
theorem getLsbD_xor_xor_add {w k : Nat} (hk : k < w) (a b : BitVec w) :
    (a ^^^ b ^^^ (a + b)).getLsbD k = decide (a.toNat % 2 ^ k + b.toNat % 2 ^ k ≥ 2 ^ k) := by
  rw [BitVec.getLsbD_xor, BitVec.getLsbD_xor, BitVec.getLsbD_add hk, BitVec.carry, Bool.toNat_false, Nat.add_zero]
  cases a.getLsbD k <;> cases b.getLsbD k <;> simp

/-- `add16` is the exact sum, with the carries out of bits 11 and 15 (R128, D11). -/
theorem add16_eq (a b : Word) :
    add16 a b = (BitVec.ofNat 16 (a.toNat + b.toNat), ⟨false, false, decide (a.toNat % 4096 + b.toNat % 4096 > 4095),
      decide (a.toNat + b.toNat > 65535)⟩) := by
  have hcarry : (0xFFFF#16 - b < a) ↔ a.toNat + b.toNat > 65535 := by
    have hb := b.isLt
    simp only [BitVec.lt_def, BitVec.toNat_sub, BitVec.toNat_ofNat]
    omega
  have hhalf : (a ^^^ b ^^^ (a + b)).getLsbD 12 = decide (a.toNat % 4096 + b.toNat % 4096 > 4095) :=
    getLsbD_xor_xor_add (by decide) a b
  simp only [add16, hhalf, hcarry]
  rw [BitVec.add_def]

/-- ADD HL writes HL and N, H and C (R130). -/
theorem addHL_eq (s : State) (p : Reg16) :
    s.addHL p = { s.setHL (BitVec.ofNat 16 (s.hl.toNat + (s.reg16 p).toNat)) with
      f := withFlags s.f (s.flag .zero) false (decide (s.hl.toNat % 4096 + (s.reg16 p).toNat % 4096 > 4095))
        (decide (s.hl.toNat + (s.reg16 p).toNat > 65535)) } := by
  simp only [State.addHL, add16_eq, writeNHC_eq]
  rfl

/-- Settles O21: by what ADD HL writes. -/
theorem addHLResult : Obligations.AddHLResult := fun s p => ⟨_, addHL_eq s p ▸ exec_addHL s p⟩

/-- Settles O22: one added or taken is the sum with 1 or with 65535, mod 2^16. -/
theorem inc16AndDec16Result : Obligations.Inc16AndDec16Result := by
  intro s p
  have hinc := exec_inc16 s p
  have hdec := exec_dec16 s p
  rw [State.inc16, succ_eq_ofNat] at hinc
  rw [State.dec16, pred_eq_ofNat] at hdec
  exact ⟨⟨_, hinc⟩, _, hdec⟩

/-! ### The SP displacement -/

theorem sext16_mod (e : Byte) : (sext16 e).toNat % 256 = e.toNat := by
  revert e
  decide

/-- `addsp` is the signed sum; its flags are the carries of the low byte's unsigned addition (R129, D12). -/
theorem addSp_eq (sp : Word) (e : Byte) :
    addSp sp e = (BitVec.ofInt 16 (sp.toNat + e.toInt), ⟨false, false,
      decide (sp.toNat % 16 + e.toNat % 16 > 15), decide (sp.toNat % 256 + e.toNat > 255)⟩) := by
  have hnibble : (sext16 e).toNat % 16 = e.toNat % 16 := by
    rw [← sext16_mod e]
    omega
  have hhalf : (sp ^^^ sext16 e ^^^ (sp + sext16 e)).getLsbD 4 = decide (sp.toNat % 16 + e.toNat % 16 > 15) :=
    hnibble ▸ getLsbD_xor_xor_add (by decide) sp (sext16 e)
  have hcarry : (sp ^^^ sext16 e ^^^ (sp + sext16 e)).getLsbD 8 = decide (sp.toNat % 256 + e.toNat > 255) := by
    rw [← sext16_mod e]
    exact getLsbD_xor_xor_add (by decide) sp (sext16 e)
  simp only [addSp, hhalf, hcarry]
  rw [add_sext16]

theorem addSPImm_eq (s : State) (e : Byte) :
    s.addSPImm e = { s with sp := (addSp s.sp e).1, f := (addSp s.sp e).2.toByte } := writeFlags_eq _ _

theorem loadHLSPImm_eq (s : State) (e : Byte) :
    s.loadHLSPImm e = { s.setHL (addSp s.sp e).1 with f := (addSp s.sp e).2.toByte } := writeFlags_eq _ _

/-- Settles O23: both instructions write the result of `addsp` and all four flags. -/
theorem spDisplacementResult : Obligations.SpDisplacementResult := by
  intro s e r f
  have hadd := exec_form s (.addSP e) (by simp)
  have hload := exec_form s (.ldHLSP e) (by simp)
  rw [formEffect, addSPImm_eq, addSp_eq] at hadd
  rw [formEffect, loadHLSPImm_eq, addSp_eq] at hload
  exact ⟨⟨_, hadd⟩, _, hload⟩

end Sys2Proof.Machine
end

section
/-! PROOFS. The accumulator rotates as the CB-page operations they perform, and the bit instructions
(42_rotate_shift.md, 43_bit.md). -/

namespace Sys2Proof.Machine

open Sys2Proof.Claims

/-! ### The accumulator rotates -/

/-- An accumulator rotate is its CB-page operation, but for Z (R138). -/
theorem accRotResult_eq (op : AccRot) (v : Byte) (cin : Bool) :
    accRotResult op v cin =
      ((rotResult (accOp op) v cin).1, ⟨false, false, false, (rotResult (accOp op) v cin).2.c⟩) := by
  cases op <;> rfl

theorem accRot_eq (s : State) (op : AccRot) :
    s.accRot op = { s with
      a := (accRotResult op s.a (s.flag .carry)).1, f := (accRotResult op s.a (s.flag .carry)).2.toByte } :=
  writeFlags_eq _ _

/-- Settles O24: the result and carry are those of the CB-page operation. -/
theorem accumulatorRotateResult : Obligations.AccumulatorRotateResult := by
  intro s op
  have hexec := exec_accRot s op
  rw [accRot_eq, accRotResult_eq, rotResult_eq] at hexec
  exact ⟨_, hexec⟩

/-! ### BIT, RES and SET -/

theorem not_getLsbD_eq (v : Byte) (b : Nat) : (!v.getLsbD b) = decide (v.toNat / 2 ^ b % 2 = 0) := by
  rw [BitVec.getLsbD, Nat.testBit_eq_decide_div_mod_eq, ← decide_not]
  simp

theorem bitOperand_eq (s : State) (b : Fin 8) (o : Operand8) :
    s.bitOperand b o = { (s.read8 o).2 with
      f := withFlags s.f (decide ((s.read8 o).1.toNat / 2 ^ b.val % 2 = 0)) false true (s.flag .carry) } := by
  simp only [State.bitOperand, writeZNH_eq, read8_flag, read8_f, not_getLsbD_eq, withFlags]

/-- Settles O26: BIT reads its operand and writes Z, N and H. -/
theorem bitTestResult : Obligations.BitTestResult := fun s b o => ⟨_, bitOperand_eq s b o ▸ exec_bit s b o⟩

theorem getLsbD_bitMask (b : Fin 8) (j : Nat) : (bitMask b).getLsbD j = decide (j = b.val) := by
  rw [bitMask, ← BitVec.twoPow_eq, BitVec.getLsbD_twoPow]
  simp [eq_comm]

/-- Settles O27: the mask of RES and SET is the one bit, so every other bit stays. -/
theorem resAndSetChangeOneBit : Obligations.ResAndSetChangeOneBit := by
  intro s b o t v
  refine ⟨⟨v &&& ~~~bitMask b, _, exec_res s b o, fun j hj => ?_⟩,
    ⟨v ||| bitMask b, _, exec_set s b o, fun j _ => ?_⟩⟩
  · rw [BitVec.getLsbD_and, BitVec.getLsbD_not, getLsbD_bitMask]
    simp [hj, Bool.and_comm]
  · simp [getLsbD_bitMask, Bool.or_comm]

end Sys2Proof.Machine
end

section
/-! PROOFS. Memory and the bus: bytes and words on a flat bus, the record of an external one, the r8 operand and the
stack (20_memory.md, 30_encoding.md section 3, 44_control.md section 1). -/

namespace Sys2Proof.Machine

/-! ### Bytes on a flat bus -/

theorem read_store_same {s : State} (hbus : s.params.bus = .flat) (hwf : s.mem.wf = true) (x : Word) (v : Byte) :
    (s.store x v).mem.read x.toNat = v := by
  rw [store_flat s x v hbus]
  exact write_read_same s.mem 0 x.toNat v hwf

/-- Settles O8: a flat load is the array's byte and no change, and a flat store is the array's write. -/
theorem flatMemoryReturnsLastWrite : Obligations.FlatMemoryReturnsLastWrite := by
  intro s x v hbus hwf
  have hbus' : (s.store x v).params.bus = .flat := by rwa [store_params]
  refine ⟨?_, fun y hy => ?_, fun y => ?_, ?_, store_wf s x v hwf⟩
  · rw [load_flat _ x hbus', read_store_same hbus hwf]
  · rw [load_flat _ y hbus', load_flat s y hbus, store_read_other s x y v hy]
  · rw [load_flat s y hbus]
  · rw [store_flat s x v hbus]

/-! ### Words on a flat bus -/

theorem succ_ne_self (x : Word) : x + 1#16 ≠ x := by simp

theorem succ_toNat (x : Word) : (x + 1#16).toNat = (x.toNat + 1) % 65536 := BitVec.toNat_add x 1#16

theorem loadWord_flat {s : State} (hbus : s.params.bus = .flat) (x : Word) :
    s.loadWord x = (joinBytes (s.mem.read (x + 1#16).toNat) (s.mem.read x.toNat), s) := by
  simp only [State.loadWord, load_flat s _ hbus]

theorem read_storeWord_low {s : State} (hbus : s.params.bus = .flat) (hwf : s.mem.wf = true) (x v : Word) :
    (s.storeWord x v).mem.read x.toNat = loByte v := by
  rw [State.storeWord, store_read_other _ _ _ _ (succ_ne_self x).symm, read_store_same hbus hwf]

theorem read_storeWord_high {s : State} (hbus : s.params.bus = .flat) (hwf : s.mem.wf = true) (x v : Word) :
    (s.storeWord x v).mem.read (x + 1#16).toNat = hiByte v :=
  read_store_same (by rwa [store_params]) (store_wf s x (loByte v) hwf) (x + 1#16) (hiByte v)

/-- Settles O9: a word is the two bytes that `storeWord` leaves, joined again by `loadWord`. -/
theorem wordAccessIsLittleEndian : Obligations.WordAccessIsLittleEndian := by
  intro s x v hbus hwf
  have hbus' : (s.storeWord x v).params.bus = .flat := by rwa [State.storeWord, store_params, store_params]
  refine ⟨?_, ?_, ?_, ?_⟩
  · rw [loadWord_flat hbus, joinBytes_toNat, succ_toNat]
  · rw [read_storeWord_low hbus hwf, loByte_toNat]
  · rw [← succ_toNat, read_storeWord_high hbus hwf, hiByte_toNat]
  · rw [loadWord_flat hbus', read_storeWord_low hbus hwf, read_storeWord_high hbus hwf, joinBytes_hi_lo]

/-! ### The external bus -/

/-- Settles O10: each access is one event, and the second of two is performed in the state the first leaves. -/
theorem externalBusRecordsEveryAccess : Obligations.ExternalBusRecordsEveryAccess := by
  intro s x v b hbus
  have hstore (y : Word) (u : Byte) : (s.store y u).params.bus = .external := by rwa [store_params]
  refine ⟨⟨_, load_external s x hbus⟩, store_external s x b hbus, ?_, ?_⟩
  · rw [State.storeWord, store_external _ _ _ (hstore ..), store_external _ _ _ hbus]
  · simp only [State.push16, setSP_busLog]
    rw [store_external _ _ _ (hstore ..), store_external _ _ _ hbus]

/-! ### The r8 operand -/

/-- Settles O11: by the laws of `setReg`, and on a flat bus of `load`. -/
theorem operandReadWrite : Obligations.OperandReadWrite := by
  refine fun s v => ⟨fun r => ⟨rfl, ?_, fun q hq => ?_, ?_, ?_, ?_⟩, rfl, rfl, load_flat s s.hl⟩
  · exact setReg_reg_same s r v
  · exact setReg_reg_other s r q v hq
  · exact setReg_f s r v
  · exact setReg_mem s r v
  · exact setReg_busLog s r v

/-! ### The stack -/

theorem sub_two_add_one (x : Word) : x - 2#16 + 1#16 = x - 1#16 := by bv_omega

theorem read_push16_low {s : State} (hbus : s.params.bus = .flat) (hwf : s.mem.wf = true) (v : Word) :
    (s.push16 v).mem.read (s.sp - 2#16).toNat = loByte v :=
  read_store_same (by rwa [store_params]) (store_wf s _ _ hwf) (s.sp - 2#16) (loByte v)

theorem read_push16_high {s : State} (hbus : s.params.bus = .flat) (hwf : s.mem.wf = true) (v : Word) :
    (s.push16 v).mem.read (s.sp - 1#16).toNat = hiByte v := by
  have hne : s.sp - 1#16 ≠ s.sp - 2#16 := by
    rw [← sub_two_add_one]
    exact succ_ne_self _
  rw [State.push16, setSP_mem, store_read_other _ _ _ _ hne, read_store_same hbus hwf]

/-- Settles O34: what a push leaves is a word at the new SP, which is what a pop reads. -/
theorem pushThenPopReturnsValue : Obligations.PushThenPopReturnsValue := by
  intro s v hbus hwf
  have hbus' : (s.push16 v).params.bus = .flat := by simpa [State.push16] using hbus
  have hsp : (s.push16 v).sp = s.sp - 2#16 := rfl
  have hword : ((s.push16 v).loadWord (s.push16 v).sp).1 = v := by
    rw [loadWord_flat hbus', hsp, sub_two_add_one, read_push16_low hbus hwf, read_push16_high hbus hwf,
      joinBytes_hi_lo]
  exact ⟨hword, BitVec.sub_add_cancel s.sp 2#16, hword⟩

end Sys2Proof.Machine
end

section
/-! PROOFS. Control transfer, stack and load instructions, the control instructions and the illegal slots: the effect
of their form, written out (44_control.md, 45_load.md, 46_misc.md). -/

namespace Sys2Proof.Machine

/-- An instruction's result is its form's effect after some cost; PREFIX CB alone has its row's. -/
theorem exec_form_advance (s : State) (f : Form) (h : ∀ cb, f ≠ .prefixCb cb := by simp) :
    ∃ n, exec f.instr s = .next ((formEffect s f).advance n) :=
  ⟨_, exec_form s f h⟩

/-! ### Control transfer and stack -/

theorem ite_setPC (b : Bool) (s : State) (v : Word) :
    (if b then s.setPC v else s) = { s with pc := if b then v else s.pc } := by
  cases b <;> rfl

/-- Settles O29: a jump writes PC or nothing, and a relative target is a signed sum. -/
theorem jumpResult : Obligations.JumpResult := by
  intro s k nn e
  have hjp := exec_form_advance s (.jp k nn)
  have hjr := exec_form_advance s (.jr k e)
  rw [formEffect, ite_setPC] at hjp
  rw [formEffect, ite_setPC, add_sext16] at hjr
  exact ⟨hjp, hjr, exec_form_advance s .jpHL⟩

theorem restartVector_eq (t : Fin 8) : restartVector t = BitVec.ofNat 16 (8 * t.val) := by
  rw [restartVector, Nat.mul_comm]

/-- Settles O30: the target written after the push. -/
theorem callAndRestartResult : Obligations.CallAndRestartResult := by
  intro s k nn t pushed
  have hrst := exec_form_advance s (.rst t)
  rw [formEffect, State.restart, restartVector_eq] at hrst
  exact ⟨exec_form_advance s (.call k nn), hrst⟩

/-- Settles O31: PC written with the word popped, and for RETI the event. -/
theorem returnResult : Obligations.ReturnResult := fun s k =>
  ⟨exec_form_advance s (.ret k), exec_form_advance s .reti⟩

/-- Settles O32: PUSH is the push of the pair. -/
theorem pushResult : Obligations.PushResult := fun s p => exec_form_advance s (.push p)

/-! ### Loads and stores -/

/-- Settles O35: one form for each pair of operands. -/
theorem load8Result : Obligations.Load8Result := fun s v =>
  ⟨fun r q => exec_form_advance s (.ld (.reg r) (.reg q)), fun r => exec_form_advance s (.ld (.reg r) .atHL),
    fun q => exec_form_advance s (.ld .atHL (.reg q)), fun r => exec_form_advance s (.ldImm (.reg r) v),
    exec_form_advance s (.ldImm .atHL v)⟩

theorem movePointer_hlInc (s : State) : s.movePointer .hlInc = s.setHL (BitVec.ofNat 16 (s.hl.toNat + 1)) := by
  rw [← succ_eq_ofNat]
  rfl

theorem movePointer_hlDec (s : State) : s.movePointer .hlDec = s.setHL (BitVec.ofNat 16 (s.hl.toNat + 65535)) := by
  rw [← pred_eq_ofNat]
  rfl

theorem loadAAt_hl (s : State) (x : Word) : (s.loadAAt x).hl = s.hl := load_hl s x

/-- Settles O36: the access at the pointer, which then moves; the access leaves HL alone. -/
theorem accumulatorIndirectResult : Obligations.AccumulatorIndirectResult := by
  intro s
  have hstore := fun p => exec_form_advance s (.storeA p)
  have hload := fun p => exec_form_advance s (.loadA p)
  have hstoreInc := hstore .hlInc
  have hstoreDec := hstore .hlDec
  have hloadInc := hload .hlInc
  have hloadDec := hload .hlDec
  simp only [formEffect, State.storeA, movePointer_hlInc, movePointer_hlDec, store_hl] at hstoreInc hstoreDec
  simp only [formEffect, State.loadA, movePointer_hlInc, movePointer_hlDec, loadAAt_hl] at hloadInc hloadDec
  exact ⟨hstore .bc, hstore .de, hstoreInc, hstoreDec, hload .bc, hload .de, hloadInc, hloadDec⟩

theorem highPage_eq (n : Byte) : highPage n = BitVec.ofNat 16 (0xFF00 + n.toNat) := by
  rw [highPage, BitVec.add_def, BitVec.toNat_setWidth_of_le (by decide)]
  rfl

/-- Settles O37: each form is one access at its address. -/
theorem absoluteAndHighPageResult : Obligations.AbsoluteAndHighPageResult := by
  intro s nn e
  have hstoreHigh := exec_form_advance s (.storeHigh e)
  have hloadHigh := exec_form_advance s (.loadHigh e)
  have hstoreC := exec_form_advance s .storeC
  have hloadC := exec_form_advance s .loadC
  simp only [formEffect, highPage_eq] at hstoreHigh hloadHigh hstoreC hloadC
  exact ⟨exec_form_advance s (.storeAbs nn), exec_form_advance s (.loadAbs nn), hstoreHigh, hloadHigh, hstoreC, hloadC⟩

/-- Settles O38: each form is one write of a pair, of SP or of a word. -/
theorem load16Result : Obligations.Load16Result := fun s nn =>
  ⟨exec_form_advance s (.ld16 .bc nn), exec_form_advance s (.ld16 .de nn), exec_form_advance s (.ld16 .hl nn),
    exec_form_advance s (.ld16 .sp nn), exec_form_advance s (.storeSP nn), exec_form_advance s .ldSPHL⟩

/-! ### The control instructions and the illegal slots -/

/-- Settles O39: NOP has no effect, the other four emit their event. -/
theorem controlInstructionsOnlyReportEvents : Obligations.ControlInstructionsOnlyReportEvents := fun s =>
  ⟨exec_form_advance s .nop, exec_form_advance s .halt, exec_form_advance s .stop, exec_form_advance s .di,
    exec_form_advance s .ei⟩

theorem illegal_nop {s : State} (h : s.params.illegalMode = .nop) : s.illegal = s := by
  rw [State.illegal, h]

theorem illegal_lock {s : State} (h : s.params.illegalMode = .lock) : s.illegal = { s with locked := true } := by
  rw [State.illegal, h]

/-- Settles O40: in lock mode the state left is one that `step` finds STUCK. -/
theorem illegalSlotResult : Obligations.IllegalSlotResult := by
  intro s k
  obtain ⟨n, hexec⟩ := exec_form_advance s (.illegal k)
  rw [formEffect] at hexec
  refine ⟨fun hmode => ⟨n, ?_⟩, fun hmode => ⟨n, _, hexec, ?_, ?_⟩⟩
  · rwa [illegal_nop hmode] at hexec
  · rw [illegal_lock hmode]
  · rw [illegal_lock hmode]
    exact step_eq_stuck ((isStuck_iff _).mpr ⟨hmode, rfl⟩)

/-! ### The host's interrupt entry -/

/-- Settles O60: the entry is a push of PC, a jump and five M-cycles. -/
theorem interruptEntryPushesPc : Obligations.InterruptEntryPushesPc := by
  refine fun s v => ⟨rfl, rfl, ?_⟩
  cases v <;> decide

end Sys2Proof.Machine
end

section
/-! PROOFS. The register accessors' domains, reset and the clock (10_state.md sections 1, 4 and 6, 60_exceptions.md
section 1, 70_reset_and_hazards.md section 1). -/

namespace Sys2Proof.Machine

/-! ### increment and decrement -/

/-- Of the registers that can be incremented, none has F as a half. -/
theorem incrementBy_f {s t : State} {r : RegId} {n : BitVec r.width} (h : s.incrementBy r n = .ok t) : t.f = s.f := by
  cases r <;> cases h <;> rfl

theorem decrementBy_f {s t : State} {r : RegId} {n : BitVec r.width} (h : s.decrementBy r n = .ok t) : t.f = s.f := by
  cases r <;> cases h <;> rfl

/-- Settles O6: register by register the amount has the register's width already. -/
theorem incrementAndDecrementOfRegisters : Obligations.IncrementAndDecrementOfRegisters := by
  have hf (s t : State) (r : RegId) (n : BitVec r.width)
      (h : s.incrementBy r n = .ok t ∨ s.decrementBy r n = .ok t) : t.f = s.f :=
    h.elim incrementBy_f decrementBy_f
  have hwidth (w : Nat) (n : BitVec w) : n.setWidth w = n := BitVec.setWidth_eq n
  refine ⟨fun s n m => ?_, hf, fun s => ?_⟩
  · simp only [State.incrementBy, State.decrementBy, hwidth, RegId.width, State.setSP, State.setPC, and_self]
  · simp only [State.increment, State.decrement, State.incrementBy, State.decrementBy, hwidth, RegId.width,
      State.setSP, State.setPC, true_and]
    exact fun r t => hf s t r _

/-! ### auxiliary and paired -/

/-- Settles O7: identifier by identifier. -/
theorem accessorsFailOnlyOutsideTheirDomain : Obligations.AccessorsFailOnlyOutsideTheirDomain := by
  intro s r v w
  cases r <;> simp [State.auxiliary, State.setAuxiliary, State.paired, State.setPaired]

/-! ### Reset -/

theorem append_zero_toNat (x : BitVec 4) : (x ++ 0#4 : Byte).toNat = 16 * x.toNat := by
  revert x
  decide

theorem append_zero_low (x : BitVec 4) : (x ++ 0#4 : Byte) &&& 0x0F#8 = 0#8 := by
  revert x
  decide

theorem resetWith_inv {s : State} (hwf : s.mem.wf = true) (regs : Config.ResetRegs) (pc : Word) :
    (s.resetWith regs pc).Inv :=
  ⟨append_zero_low regs.flags, rfl, hwf, fun _ => rfl⟩

theorem reset_eq_resetWith : State.reset = State.reset.resetWith Config.resetRegs Config.resetPc := rfl

/-- Settles O52: `State.reset` is the reset operation on an empty memory. -/
theorem resetHasTheInvariant : Obligations.ResetHasTheInvariant := by
  refine ⟨?_, fun s regs pc hwf => resetWith_inv hwf regs pc⟩
  rw [reset_eq_resetWith]
  exact resetWith_inv reset_mem_wf Config.resetRegs Config.resetPc

/-- Settles O53: the fields the reset operation writes, and those it does not. -/
theorem resetLeavesTheSpecsValues : Obligations.ResetLeavesTheSpecsValues :=
  ⟨fun _ r _ => ⟨rfl, rfl, append_zero_toNat r.flags, rfl, rfl, rfl, rfl, rfl, rfl, rfl, rfl, rfl, rfl, rfl, rfl, rfl⟩,
    rfl, reset_eq_resetWith⟩

/-! ### The clock -/

/-- Settles O54: both counters wrap, and the coarse one is four times the sum. -/
theorem advanceAddsMCycles : Obligations.AdvanceAddsMCycles := by
  intro s n
  have hfine : (s.advance n).fine.toNat = (s.fine.toNat + n) % 2 ^ 64 := by
    rw [advance_fine, BitVec.toNat_add, BitVec.toNat_ofNat, Nat.add_mod_mod]
  refine ⟨hfine, ?_, rfl⟩
  rw [advance_coarse, ← advance_fine, BitVec.toNat_mul, hfine, BitVec.toNat_ofNat, Nat.mod_mul_mod, Nat.mul_comm]

end Sys2Proof.Machine
end

section
/-! PROOFS. What an instruction leaves alone, said once for each form: the control part of the state, the 8-bit
registers, F, and memory (10_state.md sections 1, 2 and 5, 20_memory.md section 3). -/

namespace Sys2Proof.Machine

/-! ### The control part of the state -/

/-- Everything of the state but A to L, F, memory, the record of an external bus and the coarse count, which
`advance` sets anew. -/
structure Control where
  sp : Word
  pc : Word
  fine : Cycles
  locked : Bool
  params : Config.Params
  event : Event
  executed : Option Slot

def State.control (s : State) : Control := ⟨s.sp, s.pc, s.fine, s.locked, s.params, s.event, s.executed⟩

theorem load_control (s : State) (x : Word) : (s.load x).2.control = s.control := by
  rw [load_state]
  rfl

theorem store_control (s : State) (x : Word) (v : Byte) : (s.store x v).control = s.control := by
  unfold State.store
  split <;> rfl

theorem read8_control (s : State) (o : Operand8) : (s.read8 o).2.control = s.control := by
  rw [read8_state]
  rfl

theorem write8_control (s : State) (o : Operand8) (v : Byte) : (s.write8 o v).control = s.control := by
  cases o with
  | reg r => cases r <;> rfl
  | atHL => exact store_control s s.hl v

/-- A read of the operand followed by a write to it, whatever is written. -/
theorem read8_write8_control (s : State) (o : Operand8) (v : Byte) :
    ((s.read8 o).2.write8 o v).control = s.control :=
  (write8_control _ o v).trans (read8_control s o)

theorem applyAlu_control (s : State) (op : AluOp) (v : Byte) : (s.applyAlu op v).control = s.control := by
  cases op <;> rfl

theorem movePointer_control (s : State) (p : Pointer) : (s.movePointer p).control = s.control := by
  cases p <;> rfl

theorem push16_control (s : State) (v : Word) : (s.push16 v).control = { s.control with sp := s.sp - 2#16 } :=
  congrArg (fun c : Control => { c with sp := s.sp - 2#16 }) ((store_control _ _ _).trans (store_control _ _ _))

theorem pop16_control (s : State) : s.pop16.2.control = { s.control with sp := s.sp + 2#16 } :=
  congrArg (fun c : Control => { c with sp := s.sp + 2#16 }) ((load_control _ _).trans (load_control _ _))

theorem setStackPair_control (s : State) (p : StackPair) (v : Word) : (s.setStackPair p v).control = s.control := by
  cases p <;> rfl

theorem push16_setPC_control (s : State) (v nn : Word) :
    ((s.push16 v).setPC nn).control = { s.control with sp := s.sp - 2#16, pc := nn } :=
  congrArg (fun c : Control => { c with pc := nn }) (push16_control s v)

theorem popPC_control (s : State) :
    s.popPC.control = { s.control with sp := s.sp + 2#16, pc := s.popPC.pc } :=
  congrArg (fun c : Control => { c with pc := s.popPC.pc }) (pop16_control s)

/-- Only an illegal slot touches the lock bit (R45). -/
def lockedAfter (s : State) : Form → Bool
  | .illegal _ => s.illegal.locked
  | _ => s.locked

theorem illegal_control (s : State) : s.illegal.control = { s.control with locked := s.illegal.locked } := by
  unfold State.illegal
  split <;> rfl

/-- What each form does to the control part: SP and PC where its rule writes them, the event it reports, the lock bit
where it is an illegal slot, and nothing else. -/
theorem formEffect_control (s : State) (f : Form) :
    (formEffect s f).control = { s.control with
      sp := if writesSP f then (formEffect s f).sp else s.sp
      pc := if writesPC f then (formEffect s f).pc else s.pc
      locked := lockedAfter s f
      event := (eventOf f).getD s.event } := by
  cases f with
  | illegal k => exact illegal_control s
  | alu op o => exact (applyAlu_control _ op _).trans (read8_control s o)
  | aluImm op n => exact applyAlu_control s op n
  | inc o => exact read8_write8_control s o _
  | dec o => exact read8_write8_control s o _
  | inc16 p => cases p <;> rfl
  | dec16 p => cases p <;> rfl
  | ld16 p nn => cases p <;> rfl
  | rot op o => exact read8_write8_control s o _
  | bit b o => exact read8_control s o
  | res b o => exact read8_write8_control s o _
  | set b o => exact read8_write8_control s o _
  | jp c nn => simp only [formEffect, ite_setPC]; rfl
  | jr c n => simp only [formEffect, ite_setPC]; rfl
  | call c nn =>
    simp only [formEffect]
    split
    · exact push16_setPC_control s s.pc nn
    · rfl
  | ret c =>
    simp only [formEffect]
    split
    · exact popPC_control s
    · rfl
  | reti => exact congrArg (fun c : Control => { c with event := .reti }) (popPC_control s)
  | rst t => exact push16_setPC_control s s.pc _
  | push p => exact push16_control s _
  | pop p =>
    refine (setStackPair_control _ p _).trans ((pop16_control s).trans ?_)
    cases p <;> rfl
  | ld dst src =>
    cases dst with
    | reg r => exact (write8_control _ _ _).trans (read8_control s src)
    | atHL =>
      cases src with
      | reg q => exact store_control s _ _
      | atHL => rfl
  | ldImm dst n => exact write8_control s dst n
  | storeA p => exact (movePointer_control _ p).trans (store_control s _ _)
  | loadA p => exact (movePointer_control _ p).trans (load_control s _)
  | storeAbs nn => exact store_control s _ _
  | loadAbs nn => exact load_control s _
  | storeHigh n => exact store_control s _ _
  | loadHigh n => exact load_control s _
  | storeC => exact store_control s _ _
  | loadC => exact load_control s _
  | storeSP nn => exact (store_control _ _ _).trans (store_control s _ _)
  | _ => rfl

theorem formEffect_params (s : State) (f : Form) : (formEffect s f).params = s.params :=
  congrArg Control.params (formEffect_control s f)

theorem formEffect_executed (s : State) (f : Form) : (formEffect s f).executed = s.executed :=
  congrArg Control.executed (formEffect_control s f)

theorem formEffect_fine (s : State) (f : Form) : (formEffect s f).fine = s.fine :=
  congrArg Control.fine (formEffect_control s f)

theorem formEffect_event (s : State) (f : Form) : (formEffect s f).event = (eventOf f).getD s.event :=
  congrArg Control.event (formEffect_control s f)

theorem formEffect_locked (s : State) (f : Form) : (formEffect s f).locked = lockedAfter s f :=
  congrArg Control.locked (formEffect_control s f)

theorem formEffect_sp (s : State) {f : Form} (h : writesSP f = false) : (formEffect s f).sp = s.sp :=
  (congrArg Control.sp (formEffect_control s f)).trans (by rw [h]; rfl)

theorem formEffect_pc (s : State) {f : Form} (h : writesPC f = false) : (formEffect s f).pc = s.pc :=
  (congrArg Control.pc (formEffect_control s f)).trans (by rw [h]; rfl)

end Sys2Proof.Machine
end

section
/-! PROOFS. The 8-bit registers, F, memory and the clock: what each form leaves alone of them. -/

namespace Sys2Proof.Machine

open Sys2Proof.Claims

/-! ### The 8-bit registers -/

theorem read8_reg (s : State) (o : Operand8) (r : Reg8) : (s.read8 o).2.reg r = s.reg r := by
  cases o with
  | reg q => rfl
  | atHL => exact load_reg s s.hl r

theorem write8_reg (s : State) {o : Operand8} {r : Reg8} (h : r ∉ operandRegs o) (v : Byte) :
    (s.write8 o v).reg r = s.reg r := by
  cases o with
  | reg q => exact setReg_reg_other s q r v (List.ne_of_not_mem_cons h)
  | atHL => exact store_reg s s.hl v r

theorem read8_write8_reg (s : State) {o : Operand8} {r : Reg8} (h : r ∉ operandRegs o) (v : Byte) :
    ((s.read8 o).2.write8 o v).reg r = s.reg r :=
  (write8_reg _ h v).trans (read8_reg s o r)

theorem setA_reg (s : State) {r : Reg8} (h : r ∉ [Reg8.a]) (v : Byte) : State.reg { s with a := v } r = s.reg r :=
  setReg_reg_other s .a r v (List.ne_of_not_mem_cons h)

/-- A pair is written as its two halves. -/
theorem setReg_setReg_reg (s : State) {p q r : Reg8} (h : r ∉ [p, q]) (x y : Byte) :
    ((s.setReg p x).setReg q y).reg r = s.reg r := by
  obtain ⟨hp, hq⟩ : r ≠ p ∧ r ≠ q := by simpa using h
  rw [setReg_reg_other _ q r y hq, setReg_reg_other s p r x hp]

theorem setReg16_reg (s : State) {p : Reg16} {r : Reg8} (h : r ∉ reg16Halves p) (v : Word) :
    (s.setReg16 p v).reg r = s.reg r := by
  cases p with
  | bc => exact setReg_setReg_reg s (p := .b) (q := .c) h (hiByte v) (loByte v)
  | de => exact setReg_setReg_reg s (p := .d) (q := .e) h (hiByte v) (loByte v)
  | hl => exact setReg_setReg_reg s (p := .h) (q := .l) h (hiByte v) (loByte v)
  | sp => cases r <;> rfl

theorem setStackPair_reg (s : State) {p : StackPair} {r : Reg8} (h : r ∉ stackPairHalves p) (v : Word) :
    (s.setStackPair p v).reg r = s.reg r := by
  cases p with
  | bc => exact setReg16_reg s (p := .bc) h v
  | de => exact setReg16_reg s (p := .de) h v
  | hl => exact setReg16_reg s (p := .hl) h v
  | af => exact setA_reg s h (hiByte v)

theorem movePointer_reg (s : State) {p : Pointer} {r : Reg8} (h : r ∉ pointerMoves p) :
    (s.movePointer p).reg r = s.reg r := by
  cases p with
  | bc => rfl
  | de => rfl
  | hlInc => exact setReg16_reg s (p := .hl) h _
  | hlDec => exact setReg16_reg s (p := .hl) h _

theorem applyAlu_reg (s : State) {op : AluOp} {r : Reg8} (h : r ∉ aluRegs op) (v : Byte) :
    (s.applyAlu op v).reg r = s.reg r := by
  cases op with
  | cp => rfl
  | _ => exact setA_reg s h _

theorem push16_reg (s : State) (v : Word) (r : Reg8) : (s.push16 v).reg r = s.reg r :=
  (store_reg _ _ _ r).trans (store_reg _ _ _ r)

theorem pop16_reg (s : State) (r : Reg8) : s.pop16.2.reg r = s.reg r :=
  (load_reg _ _ r).trans (load_reg _ _ r)

theorem loadAAt_reg (s : State) (x : Word) {r : Reg8} (h : r ∉ [Reg8.a]) : (s.loadAAt x).reg r = s.reg r :=
  (setA_reg _ h _).trans (load_reg s x r)

theorem illegal_reg (s : State) (r : Reg8) : s.illegal.reg r = s.reg r := by
  unfold State.illegal
  split <;> rfl

theorem formEffect_reg (s : State) (f : Form) {r : Reg8} (h : r ∉ writtenRegs f) :
    (formEffect s f).reg r = s.reg r := by
  cases f with
  | illegal k => exact illegal_reg s r
  | alu op o => exact (applyAlu_reg _ h _).trans (read8_reg s o r)
  | aluImm op n => exact applyAlu_reg s h n
  | inc o => exact read8_write8_reg s h _
  | dec o => exact read8_write8_reg s h _
  | daa => exact setA_reg s h _
  | cpl => exact setA_reg s h _
  | addHL p => exact setReg16_reg s (p := .hl) h _
  | inc16 p => exact setReg16_reg s h _
  | dec16 p => exact setReg16_reg s h _
  | ldHLSP n => exact setReg16_reg s (p := .hl) h _
  | accRot op => exact setA_reg s h _
  | rot op o => exact read8_write8_reg s h _
  | bit b o => exact read8_reg s o r
  | res b o => exact read8_write8_reg s h _
  | set b o => exact read8_write8_reg s h _
  | jp c nn => simp only [formEffect, ite_setPC]; rfl
  | jr c n => simp only [formEffect, ite_setPC]; rfl
  | call c nn =>
    simp only [formEffect]
    split
    · exact push16_reg s s.pc r
    · rfl
  | ret c =>
    simp only [formEffect]
    split
    · exact pop16_reg s r
    · rfl
  | reti => exact pop16_reg s r
  | rst t => exact push16_reg s s.pc r
  | push p => exact push16_reg s _ r
  | pop p => exact (setStackPair_reg _ h _).trans (pop16_reg s r)
  | ld dst src =>
    cases dst with
    | reg q => exact (write8_reg _ h _).trans (read8_reg s src r)
    | atHL =>
      cases src with
      | reg q => exact store_reg s _ _ r
      | atHL => rfl
  | ldImm dst n => exact write8_reg s h n
  | storeA p => exact (movePointer_reg _ h).trans (store_reg s _ _ r)
  | loadA p =>
    have hregs : r ∉ [Reg8.a] ∧ r ∉ pointerMoves p := by simpa [writtenRegs] using h
    exact (movePointer_reg _ hregs.2).trans (loadAAt_reg s _ hregs.1)
  | storeAbs nn => exact store_reg s _ _ r
  | loadAbs nn => exact loadAAt_reg s _ h
  | storeHigh n => exact store_reg s _ _ r
  | loadHigh n => exact loadAAt_reg s _ h
  | storeC => exact store_reg s _ _ r
  | loadC => exact loadAAt_reg s _ h
  | ld16 p nn => exact setReg16_reg s h nn
  | storeSP nn => exact (store_reg _ _ _ r).trans (store_reg s _ _ r)
  | _ => rfl

/-! ### F -/

/-- A row of the flag table says of each of these flags what it may be. -/
def FlagRow.Allows (row : FlagRow) (s : State) (fl : FlagSet) : Prop :=
  row.z.holds (s.flag .zero) fl.z ∧ row.n.holds (s.flag .subtract) fl.n ∧ row.h.holds (s.flag .halfCarry) fl.h ∧
    row.c.holds (s.flag .carry) fl.c

/-- The three things an instruction can do to F: leave it, replace it, or write the four flags and keep bits 3 to 0. -/
inductive FlagWrite (s t : State) (row : FlagRow) : Prop
  | kept (hf : t.f = s.f) (hrow : row = unchangedFlags)
  | replaced (fl : FlagSet) (hf : t.f = fl.toByte) (hrow : row.Allows s fl)
  | merged (z n h c : Bool) (hf : t.f = withFlags s.f z n h c) (hrow : row.Allows s ⟨z, n, h, c⟩)

theorem FlagRow.Allows.holds {row : FlagRow} {s : State} {fl : FlagSet} (h : row.Allows s fl) (k : FlagId) :
    (row.at k).holds (s.flag k) (flagOf fl k) := by
  obtain ⟨hz, hn, hh, hc⟩ := h
  cases k with
  | zero => exact hz
  | subtract => exact hn
  | halfCarry => exact hh
  | carry => exact hc

theorem FlagWrite.holds {s t : State} {row : FlagRow} (h : FlagWrite s t row) (k : FlagId) :
    (row.at k).holds (s.flag k) (t.flag k) := by
  cases h with
  | kept hf hrow =>
    have hflag : t.flag k = s.flag k := by rw [State.flag, hf, State.flag]
    subst hrow
    cases k <;> exact hflag
  | replaced fl hf hrow =>
    have hflag : t.flag k = flagOf fl k := by rw [State.flag, hf, getLsbD_toByte]
    exact hflag ▸ hrow.holds k
  | merged z n h c hf hrow =>
    have hflag : t.flag k = flagOf ⟨z, n, h, c⟩ k := by rw [State.flag, hf, getLsbD_withFlags]
    exact hflag ▸ hrow.holds k

/-- Bits 3 to 0 of F, once 0, stay 0 (R31). -/
theorem FlagWrite.low {s t : State} {row : FlagRow} (h : FlagWrite s t row) (hs : s.f &&& 0x0F#8 = 0#8) :
    t.f &&& 0x0F#8 = 0#8 := by
  cases h with
  | kept hf _ => rw [hf, hs]
  | replaced fl hf _ => rw [hf, toByte_low]
  | merged z n h c hf _ => rw [hf, withFlags, keep_low, hs]

theorem masked_eq_toByte (v : Byte) :
    v &&& 0xF0#8 = FlagSet.toByte ⟨v.getLsbD 7, v.getLsbD 6, v.getLsbD 5, v.getLsbD 4⟩ := by
  revert v
  decide

theorem aluFlags_allows (s : State) (op : AluOp) (a v : Byte) (cin : Bool) :
    (aluFlags op).Allows s (aluResult op a v cin).2 := by
  cases op with
  | and => exact ⟨trivial, rfl, rfl, rfl⟩
  | or => exact ⟨trivial, rfl, rfl, rfl⟩
  | xor => exact ⟨trivial, rfl, rfl, rfl⟩
  | _ => exact ⟨trivial, rfl, trivial, trivial⟩

theorem rotFlags_allows (s : State) (op : RotOp) (v : Byte) (cin : Bool) :
    (rotFlags op).Allows s (rotResult op v cin).2 := by
  cases op with
  | swap => exact ⟨trivial, rfl, rfl, rfl⟩
  | _ => exact ⟨trivial, rfl, rfl, trivial⟩

/-- Every ALU operation replaces F, by the flags of its result (R95). -/
theorem applyAlu_f (s : State) (op : AluOp) (v : Byte) :
    (s.applyAlu op v).f = (aluResult op s.a v (s.flag .carry)).2.toByte := by
  cases op <;> exact congrArg State.f (writeFlags_eq _ _)

theorem applyAlu_flagWrite (s : State) (op : AluOp) (v : Byte) : FlagWrite s (s.applyAlu op v) (aluFlags op) :=
  .replaced _ (applyAlu_f s op v) (aluFlags_allows s op s.a v _)

theorem push16_f (s : State) (v : Word) : (s.push16 v).f = s.f := (store_f _ _ _).trans (store_f _ _ _)

theorem pop16_f (s : State) : s.pop16.2.f = s.f := (load_f _ _).trans (load_f _ _)

theorem illegal_f (s : State) : s.illegal.f = s.f := by
  unfold State.illegal
  split <;> rfl

theorem aluOperand_flagWrite (s : State) (op : AluOp) (o : Operand8) :
    FlagWrite s (s.aluOperand op o) (aluFlags op) :=
  .replaced _ (applyAlu_f _ op _) (aluFlags_allows s op _ _ _)

/-- What each form does to F is what its row of the table says (R35). -/
theorem formEffect_flagWrite (s : State) (f : Form) : FlagWrite s (formEffect s f) (flagTable f) := by
  cases f with
  | illegal k => exact .kept (illegal_f s) rfl
  | alu op o => exact aluOperand_flagWrite s op o
  | aluImm op n => exact applyAlu_flagWrite s op n
  | inc o => exact .merged _ _ _ _ (congrArg State.f (incOperand_eq s o)) ⟨trivial, rfl, trivial, rfl⟩
  | dec o => exact .merged _ _ _ _ (congrArg State.f (decOperand_eq s o)) ⟨trivial, rfl, trivial, rfl⟩
  | daa => exact .merged _ _ _ _ (congrArg State.f (daa_eq s)) ⟨trivial, rfl, rfl, trivial⟩
  | cpl => exact .merged _ _ _ _ (congrArg State.f (cpl_eq s)) ⟨rfl, rfl, rfl, rfl⟩
  | scf => exact .merged _ _ _ _ (congrArg State.f (scf_eq s)) ⟨rfl, rfl, rfl, rfl⟩
  | ccf => exact .merged _ _ _ _ (congrArg State.f (ccf_eq s)) ⟨rfl, rfl, rfl, trivial⟩
  | addHL p => exact .merged _ _ _ _ (congrArg State.f (addHL_eq s p)) ⟨rfl, rfl, trivial, trivial⟩
  | addSP n => exact .replaced _ (congrArg State.f (addSPImm_eq s n)) ⟨rfl, rfl, trivial, trivial⟩
  | ldHLSP n => exact .replaced _ (congrArg State.f (loadHLSPImm_eq s n)) ⟨rfl, rfl, trivial, trivial⟩
  | accRot op =>
    refine .replaced _ (congrArg State.f (accRot_eq s op)) ?_
    rw [accRotResult_eq]
    exact ⟨rfl, rfl, rfl, trivial⟩
  | rot op o => exact .replaced _ (congrArg State.f (rotOperand_eq s op o)) (rotFlags_allows s op _ _)
  | bit b o => exact .merged _ _ _ _ (congrArg State.f (bitOperand_eq s b o)) ⟨trivial, rfl, rfl, rfl⟩
  | res b o => exact .kept ((write8_f _ o _).trans (read8_f s o)) rfl
  | set b o => exact .kept ((write8_f _ o _).trans (read8_f s o)) rfl
  | inc16 p => exact .kept (setReg16_f s p _) rfl
  | dec16 p => exact .kept (setReg16_f s p _) rfl
  | jp c nn => exact .kept (by simp only [formEffect, ite_setPC]) rfl
  | jr c n => exact .kept (by simp only [formEffect, ite_setPC]) rfl
  | call c nn =>
    simp only [formEffect]
    split
    · exact .kept (push16_f s s.pc) rfl
    · exact .kept rfl rfl
  | ret c =>
    simp only [formEffect]
    split
    · exact .kept (pop16_f s) rfl
    · exact .kept rfl rfl
  | reti => exact .kept (pop16_f s) rfl
  | rst t => exact .kept (push16_f s s.pc) rfl
  | push p => exact .kept (push16_f s _) rfl
  | pop p =>
    cases p with
    | af => exact .replaced _ (masked_eq_toByte _) ⟨trivial, trivial, trivial, trivial⟩
    | _ => exact .kept (pop16_f s) rfl
  | ld dst src =>
    cases dst with
    | reg q => exact .kept ((write8_f _ _ _).trans (read8_f s src)) rfl
    | atHL =>
      cases src with
      | reg q => exact .kept (store_f s _ _) rfl
      | atHL => exact .kept rfl rfl
  | ldImm dst n => exact .kept (write8_f s dst n) rfl
  | storeA p => exact .kept ((movePointer_f _ p).trans (store_f s _ _)) rfl
  | loadA p => exact .kept ((movePointer_f _ p).trans (load_f s _)) rfl
  | storeAbs nn => exact .kept (store_f s _ _) rfl
  | loadAbs nn => exact .kept (load_f s _) rfl
  | storeHigh n => exact .kept (store_f s _ _) rfl
  | loadHigh n => exact .kept (load_f s _) rfl
  | storeC => exact .kept (store_f s _ _) rfl
  | loadC => exact .kept (load_f s _) rfl
  | ld16 p nn => exact .kept (setReg16_f s p nn) rfl
  | storeSP nn => exact .kept ((store_f _ _ _).trans (store_f s _ _)) rfl
  | _ => exact .kept rfl rfl

end Sys2Proof.Machine
end

section
/-! PROOFS. Memory and the clock: the bytes each form stores to, and that no form looks at the clock. -/

namespace Sys2Proof.Machine

/-! ### Memory -/

/-- What an operation that stores to these addresses at most does to memory: it keeps the canonical form and every
other byte. -/
structure StoresOnly (s t : State) (stored : List Word) : Prop where
  wf : s.mem.wf = true → t.mem.wf = true
  read : ∀ x, x ∉ stored → t.mem.read x.toNat = s.mem.read x.toNat

theorem StoresOnly.of_mem_eq {s t : State} {stored : List Word} (h : t.mem = s.mem) : StoresOnly s t stored :=
  ⟨fun hwf => by rwa [h], fun x _ => by rw [h]⟩

/-- What runs before or after and leaves memory alone does not count. -/
theorem StoresOnly.of_mem_eq_left {r s t : State} {stored : List Word} (h : StoresOnly s t stored)
    (hrs : s.mem = r.mem) : StoresOnly r t stored :=
  ⟨fun hwf => h.wf (by rwa [hrs]), fun x hx => by rw [h.read x hx, hrs]⟩

theorem StoresOnly.of_mem_eq_right {s t u : State} {stored : List Word} (h : StoresOnly s t stored)
    (htu : u.mem = t.mem) : StoresOnly s u stored :=
  ⟨fun hwf => by rw [htu]; exact h.wf hwf, fun x hx => by rw [htu, h.read x hx]⟩

theorem store_storesOnly (s : State) (x : Word) (v : Byte) : StoresOnly s (s.store x v) [x] :=
  ⟨store_wf s x v, fun y hy => store_read_other s x y v (List.ne_of_not_mem_cons hy)⟩

theorem store_store_storesOnly (s : State) (x y : Word) (v w : Byte) :
    StoresOnly s ((s.store x v).store y w) [x, y] where
  wf hwf := store_wf _ y w (store_wf s x v hwf)
  read z hz := by
    obtain ⟨hx, hy⟩ : z ≠ x ∧ z ≠ y := by simpa using hz
    rw [store_read_other _ y z w hy, store_read_other s x z v hx]

theorem read8_mem (s : State) (o : Operand8) : (s.read8 o).2.mem = s.mem := by
  rw [read8_state]

theorem read8_hl (s : State) (o : Operand8) : (s.read8 o).2.hl = s.hl := by
  rw [read8_state]
  rfl

theorem write8_storesOnly (s : State) (o : Operand8) (v : Byte) :
    StoresOnly s (s.write8 o v) (operandAddress s o) := by
  cases o with
  | reg r => exact .of_mem_eq (setReg_mem s r v)
  | atHL => exact store_storesOnly s s.hl v

theorem read8_write8_storesOnly (s : State) (src dst : Operand8) (v : Byte) :
    StoresOnly s ((s.read8 src).2.write8 dst v) (operandAddress s dst) := by
  have haddress : operandAddress (s.read8 src).2 dst = operandAddress s dst := by
    cases dst with
    | reg r => rfl
    | atHL => exact congrArg (fun x => [x]) (read8_hl s src)
  exact haddress ▸ (write8_storesOnly _ dst v).of_mem_eq_left (read8_mem s src)

theorem push16_storesOnly (s : State) (v : Word) : StoresOnly s (s.push16 v) (pushAddresses s) :=
  (store_store_storesOnly s _ _ _ _).of_mem_eq_right rfl

theorem pop16_mem (s : State) : s.pop16.2.mem = s.mem := (load_mem _ _).trans (load_mem _ _)

theorem applyAlu_mem (s : State) (op : AluOp) (v : Byte) : (s.applyAlu op v).mem = s.mem := (applyAlu_kept s op v).1

theorem illegal_mem (s : State) : s.illegal.mem = s.mem := by
  unfold State.illegal
  split <;> rfl

/-- Each form stores to the bytes `storedBytes` lists, and to no other. -/
theorem formEffect_storesOnly (s : State) (f : Form) : StoresOnly s (formEffect s f) (storedBytes s f) := by
  cases f with
  | illegal k => exact .of_mem_eq (illegal_mem s)
  | alu op o => exact .of_mem_eq ((applyAlu_mem _ op _).trans (read8_mem s o))
  | aluImm op n => exact .of_mem_eq (applyAlu_mem s op n)
  | inc o => exact (read8_write8_storesOnly s o o _).of_mem_eq_right rfl
  | dec o => exact (read8_write8_storesOnly s o o _).of_mem_eq_right rfl
  | inc16 p => exact .of_mem_eq (setReg16_mem s p _)
  | dec16 p => exact .of_mem_eq (setReg16_mem s p _)
  | rot op o => exact (read8_write8_storesOnly s o o _).of_mem_eq_right rfl
  | bit b o => exact .of_mem_eq (read8_mem s o)
  | res b o => exact read8_write8_storesOnly s o o _
  | set b o => exact read8_write8_storesOnly s o o _
  | jp c nn => exact .of_mem_eq (by simp only [formEffect, ite_setPC])
  | jr c n => exact .of_mem_eq (by simp only [formEffect, ite_setPC])
  | call c nn =>
    simp only [formEffect, storedBytes]
    split
    · exact (push16_storesOnly s s.pc).of_mem_eq_right rfl
    · exact .of_mem_eq rfl
  | ret c =>
    simp only [formEffect]
    split
    · exact .of_mem_eq (pop16_mem s)
    · exact .of_mem_eq rfl
  | reti => exact .of_mem_eq (pop16_mem s)
  | rst t => exact (push16_storesOnly s s.pc).of_mem_eq_right rfl
  | push p => exact push16_storesOnly s _
  | pop p => exact .of_mem_eq ((setStackPair_mem _ p _).trans (pop16_mem s))
  | ld dst src =>
    cases dst with
    | reg r => exact .of_mem_eq ((setReg_mem _ r _).trans (read8_mem s src))
    | atHL =>
      cases src with
      | reg q => exact store_storesOnly s s.hl _
      | atHL => exact .of_mem_eq rfl
  | ldImm dst n => exact write8_storesOnly s dst n
  | storeA p => exact (store_storesOnly s _ _).of_mem_eq_right (movePointer_mem _ p)
  | loadA p => exact .of_mem_eq ((movePointer_mem _ p).trans (load_mem s _))
  | storeAbs nn => exact store_storesOnly s nn _
  | loadAbs nn => exact .of_mem_eq (load_mem s nn)
  | storeHigh n => exact store_storesOnly s _ _
  | loadHigh n => exact .of_mem_eq (load_mem s _)
  | storeC => exact store_storesOnly s _ _
  | loadC => exact .of_mem_eq (load_mem s _)
  | ld16 p nn => exact .of_mem_eq (setReg16_mem s p nn)
  | storeSP nn => exact store_store_storesOnly s _ _ _ _
  | _ => exact .of_mem_eq rfl

/-! ### The clock is not read -/

theorem load_eraseClock (s : State) (x : Word) :
    s.eraseClock.load x = ((s.load x).1, (s.load x).2.eraseClock) := by
  cases hbus : s.params.bus with
  | flat => rw [load_flat _ x hbus, load_flat s.eraseClock x hbus]; rfl
  | external => rw [load_external _ x hbus, load_external s.eraseClock x hbus]; rfl

theorem store_eraseClock (s : State) (x : Word) (v : Byte) :
    s.eraseClock.store x v = (s.store x v).eraseClock := by
  cases hbus : s.params.bus with
  | flat => rw [store_flat _ x v hbus, store_flat s.eraseClock x v hbus]; rfl
  | external => rw [store_external _ x v hbus, store_external s.eraseClock x v hbus]; rfl

theorem read8_eraseClock (s : State) (o : Operand8) :
    s.eraseClock.read8 o = ((s.read8 o).1, (s.read8 o).2.eraseClock) := by
  cases o with
  | reg r => cases r <;> rfl
  | atHL => exact load_eraseClock s s.hl

theorem write8_eraseClock (s : State) (o : Operand8) (v : Byte) :
    s.eraseClock.write8 o v = (s.write8 o v).eraseClock := by
  cases o with
  | reg r => cases r <;> rfl
  | atHL => exact store_eraseClock s s.hl v

theorem applyAlu_eraseClock (s : State) (op : AluOp) (v : Byte) :
    s.eraseClock.applyAlu op v = (s.applyAlu op v).eraseClock := by
  cases op <;> rfl

theorem push16_eraseClock (s : State) (v : Word) : s.eraseClock.push16 v = (s.push16 v).eraseClock := by
  simp only [State.push16, store_eraseClock]
  rfl

theorem pop16_eraseClock (s : State) : s.eraseClock.pop16 = (s.pop16.1, s.pop16.2.eraseClock) := by
  simp only [State.pop16, load_eraseClock]
  rfl

theorem setStackPair_eraseClock (s : State) (p : StackPair) (v : Word) :
    s.eraseClock.setStackPair p v = (s.setStackPair p v).eraseClock := by
  cases p <;> rfl

theorem setReg16_eraseClock (s : State) (p : Reg16) (v : Word) :
    s.eraseClock.setReg16 p v = (s.setReg16 p v).eraseClock := by
  cases p <;> rfl

theorem movePointer_eraseClock (s : State) (p : Pointer) :
    s.eraseClock.movePointer p = (s.movePointer p).eraseClock := by
  cases p <;> rfl

theorem pointer_eraseClock (s : State) (p : Pointer) : s.eraseClock.pointer p = s.pointer p := by
  cases p <;> rfl

theorem loadAAt_eraseClock (s : State) (x : Word) : s.eraseClock.loadAAt x = (s.loadAAt x).eraseClock := by
  simp only [State.loadAAt, load_eraseClock]
  rfl

theorem taken_eraseClock (s : State) (c : Option Cond) : s.eraseClock.taken c = s.taken c := by
  cases c with
  | none => rfl
  | some k => cases k <;> rfl

theorem illegal_eraseClock (s : State) : s.eraseClock.illegal = s.illegal.eraseClock := by
  cases hmode : s.params.illegalMode with
  | nop => rw [illegal_nop hmode, illegal_nop (s := s.eraseClock) hmode]
  | lock => rw [illegal_lock hmode, illegal_lock (s := s.eraseClock) hmode]; rfl

/-- A form's effect from a state with its clock erased is its effect, with the clock erased (R227). -/
theorem formEffect_eraseClock (s : State) (f : Form) :
    formEffect s.eraseClock f = (formEffect s f).eraseClock := by
  cases f with
  | illegal k => exact illegal_eraseClock s
  | alu op o => simp only [formEffect, State.aluOperand, read8_eraseClock, applyAlu_eraseClock]
  | aluImm op n => exact applyAlu_eraseClock s op n
  | inc o => simp only [formEffect, State.incOperand, read8_eraseClock, write8_eraseClock]; rfl
  | dec o => simp only [formEffect, State.decOperand, read8_eraseClock, write8_eraseClock]; rfl
  | addHL p => cases p <;> rfl
  | inc16 p => cases p <;> rfl
  | dec16 p => cases p <;> rfl
  | rot op o => simp only [formEffect, State.rotOperand, read8_eraseClock, write8_eraseClock]; rfl
  | bit b o => simp only [formEffect, State.bitOperand, read8_eraseClock]; rfl
  | res b o => simp only [formEffect, State.resOperand, read8_eraseClock, write8_eraseClock]
  | set b o => simp only [formEffect, State.setOperand, read8_eraseClock, write8_eraseClock]
  | jp c nn => simp only [formEffect, taken_eraseClock, apply_ite State.eraseClock]; rfl
  | jr c n => simp only [formEffect, taken_eraseClock, apply_ite State.eraseClock]; rfl
  | call c nn => simp only [formEffect, taken_eraseClock, apply_ite State.eraseClock, push16_eraseClock]; rfl
  | ret c => simp only [formEffect, taken_eraseClock, apply_ite State.eraseClock, State.popPC, pop16_eraseClock]; rfl
  | reti => simp only [formEffect, State.popPC, pop16_eraseClock]; rfl
  | rst t => simp only [formEffect, State.restart, push16_eraseClock]; rfl
  | push p => cases p <;> exact push16_eraseClock s _
  | pop p => simp only [formEffect, State.pop, pop16_eraseClock, setStackPair_eraseClock]
  | ld dst src =>
    cases dst with
    | reg r => simp only [formEffect, formEffect.loadEffect, State.loadOperand, read8_eraseClock, write8_eraseClock]
    | atHL =>
      cases src with
      | reg q => exact write8_eraseClock s .atHL _
      | atHL => rfl
  | ldImm dst n => exact write8_eraseClock s dst n
  | storeA p =>
    simp only [formEffect, State.storeA, pointer_eraseClock, store_eraseClock, movePointer_eraseClock]
    rfl
  | loadA p => simp only [formEffect, State.loadA, pointer_eraseClock, loadAAt_eraseClock, movePointer_eraseClock]
  | storeAbs nn => exact store_eraseClock s nn _
  | loadAbs nn => exact loadAAt_eraseClock s nn
  | storeHigh n => exact store_eraseClock s _ _
  | loadHigh n => exact loadAAt_eraseClock s _
  | storeC => exact store_eraseClock s _ _
  | loadC => exact loadAAt_eraseClock s _
  | ld16 p nn => exact setReg16_eraseClock s p nn
  | storeSP nn => simp only [formEffect, State.storeWord, store_eraseClock]; rfl
  | _ => rfl

end Sys2Proof.Machine
end

section
/-! PROOFS. The statements over all instructions and over the step: frames, flags, the invariant, the clock and costs
(10_state.md, 60_exceptions.md section 5, 70_reset_and_hazards.md section 3). -/

namespace Sys2Proof.Machine

/-! ### The frames -/

theorem lockedAfter_ne {s : State} {f : Form} (h : lockedAfter s f ≠ s.locked) :
    s.params.illegalMode = .lock ∧ ∃ k, f = .illegal k := by
  cases f with
  | illegal k =>
    cases hmode : s.params.illegalMode with
    | nop => exact absurd (by rw [lockedAfter, illegal_nop hmode]) h
    | lock => exact ⟨rfl, k, rfl⟩
  | _ => exact absurd rfl h

/-- The page switch's rows hold no illegal slot, so an instruction of an illegal form is that slot itself. -/
theorem eq_ofIllegal_of_form {i : Instr} {k : IllegalSlot} (h : i.effective.form = .illegal k) :
    i = .ofIllegal k := by
  have hi : i.effective = .ofIllegal k := by rw [← form_instr i.effective, h]; rfl
  cases i with
  | prefixCb cb =>
    have hslot := slotOf_decodeCb cb
    rw [show decodeCb cb = .ofIllegal k from hi] at hslot
    cases k <;> cases hslot
  | _ => exact hi

/-- Settles O59: by what a form does to the control part and to the registers. -/
theorem onlyNamedRegistersChange : Obligations.OnlyNamedRegistersChange := by
  intro i s t h
  rw [exec_eq] at h
  cases h
  refine ⟨fun r hr => formEffect_reg s _ hr, formEffect_sp s, formEffect_pc s, formEffect_params s _,
    formEffect_executed s _, formEffect_event s _, fun hne => ?_⟩
  rw [advance_locked, formEffect_locked] at hne
  obtain ⟨hmode, k, hk⟩ := lockedAfter_ne hne
  exact ⟨hmode, k, eq_ofIllegal_of_form hk⟩

/-- Settles O58: by the bytes a form stores to. -/
theorem onlyStoredBytesChange : Obligations.OnlyStoredBytesChange := by
  intro i s t h x hx
  rw [exec_eq] at h
  cases h
  exact (formEffect_storesOnly s _).read x hx

/-- Settles O57: by what a form does to F. -/
theorem flagsChangeAsTheTableSays : Obligations.FlagsChangeAsTheTableSays := by
  intro i s t h k
  rw [exec_eq] at h
  cases h
  exact (formEffect_flagWrite s _).holds k

/-! ### The invariant -/

/-- An instruction keeps the invariant; `advance` sets the coarse count whatever it was (R40). -/
theorem exec_inv {i : Instr} {s t : State} (hs : s.Inv) (h : exec i s = .next t) : t.Inv := by
  obtain ⟨hlow, -, hwf, hlock⟩ := hs
  rw [exec_eq] at h
  cases h
  refine ⟨(formEffect_flagWrite s _).low hlow, rfl, (formEffect_storesOnly s _).wf hwf, fun hmode => ?_⟩
  rw [advance_params, formEffect_params] at hmode
  rw [advance_locked, formEffect_locked]
  by_contra hlocked
  obtain ⟨hmode', -⟩ := lockedAfter_ne (hlock hmode ▸ hlocked)
  rw [hmode] at hmode'
  cases hmode'

/-- What a dispatch does before the instruction's rule touches PC, the bus record, the event and the slot noted. -/
theorem fetch_inv {s : State} (hs : s.Inv) (i : Instr) : (s.beginDispatch.fetchInstr.2.record i).Inv := by
  rw [fetchInstr_state]
  exact hs

/-- Settles O51: the fetch and then the instruction keep the invariant. -/
theorem stepKeepsTheInvariant : Obligations.StepKeepsTheInvariant := by
  intro s t hs hstep
  cases hstuck : s.isStuck with
  | true => rw [step_eq_stuck hstuck] at hstep; cases hstep
  | false =>
    rw [step_eq_exec hstuck] at hstep
    exact exec_inv (fetch_inv hs _) hstep

/-! ### The clock -/

theorem fetch8_eraseClock (s : State) : s.eraseClock.fetch8 = (s.fetch8.1, s.fetch8.2.eraseClock) := by
  simp only [State.fetch8]
  rw [load_eraseClock]
  rfl

theorem fetchIf_eraseClock (s : State) (has : Bool) :
    s.eraseClock.fetchIf has = ((s.fetchIf has).1, (s.fetchIf has).2.eraseClock) := by
  cases has with
  | false => rfl
  | true => exact fetch8_eraseClock s

theorem fetchInstr_eraseClock (s : State) :
    s.eraseClock.fetchInstr = (s.fetchInstr.1, s.fetchInstr.2.eraseClock) := by
  simp only [State.fetchInstr, fetch8_eraseClock, fetchIf_eraseClock]
  rfl

/-- The state a step that is not STUCK leaves, before the instruction's cost is charged. -/
def stepEffect (s : State) : State :=
  let fetched := s.beginDispatch.fetchInstr
  formEffect (fetched.2.record fetched.1) fetched.1.effective.form

theorem step_eq_stepEffect {s : State} (h : s.isStuck = false) : ∃ n, step s = .next ((stepEffect s).advance n) :=
  ⟨_, (step_eq_exec h).trans (exec_eq _ _)⟩

theorem stepEffect_eraseClock (s : State) : stepEffect s.eraseClock = (stepEffect s).eraseClock := by
  have hfetch := fetchInstr_eraseClock s.beginDispatch
  have hbegin : s.eraseClock.beginDispatch = s.beginDispatch.eraseClock := rfl
  simp only [stepEffect, hbegin, hfetch]
  exact formEffect_eraseClock (s.beginDispatch.fetchInstr.2.record s.beginDispatch.fetchInstr.1) _

/-- Settles O56: both steps do what a step from the state without its clock does. -/
theorem nothingDependsOnTheClock : Obligations.NothingDependsOnTheClock := by
  intro s x y hstuck
  obtain ⟨m, hs⟩ := step_eq_stepEffect hstuck
  obtain ⟨n, hu⟩ := step_eq_stepEffect (s := { s with fine := x, coarse := y }) hstuck
  refine ⟨_, _, hs, hu, ?_⟩
  exact (stepEffect_eraseClock { s with fine := x, coarse := y }).symm.trans (stepEffect_eraseClock s)

/-! ### Costs -/

/-- The cost charged is the declared one: the form's slot is the instruction's. -/
theorem formCost_eq_declaredCost (s : State) (i : Instr) :
    formCost s i.effective.form = declaredCost s.params.cycles i (takenBy i s) := by
  rw [formCost, form_instr]
  rfl

/-- The table that names every slot with the costs of a function. -/
def tableOf (cost : Slot → Bool → Nat) : Config.CycleTable :=
  [Page.primary, Page.cb].flatMap fun page => (List.finRange 256).map fun n =>
    { slot := ⟨page, BitVec.ofFin n⟩
      taken := cost ⟨page, BitVec.ofFin n⟩ true
      notTaken := cost ⟨page, BitVec.ofFin n⟩ false }

theorem cycleCost_of_mem {table : Config.CycleTable} {cost : Slot → Bool → Nat}
    (hcost : ∀ e ∈ table, e.taken = cost e.slot true ∧ e.notTaken = cost e.slot false) {sl : Slot}
    (hmem : ∃ e ∈ table, e.slot = sl) (taken : Bool) (n : Nat) : cycleCost table sl taken n = cost sl taken := by
  induction table with
  | nil => simp at hmem
  | cons e rest ih =>
    by_cases hslot : e.slot = sl
    · subst hslot
      obtain ⟨htaken, hnot⟩ := hcost e (List.mem_cons_self ..)
      rw [cycleCost_named, htaken, hnot]
      cases taken <;> rfl
    · rw [cycleCost_unnamed hslot]
      refine ih (fun e' he' => hcost e' (List.mem_cons_of_mem e he')) ?_
      obtain ⟨e', he', hsl⟩ := hmem
      obtain rfl | hrest := List.mem_cons.mp he'
      · exact absurd hsl hslot
      · exact ⟨e', hrest, hsl⟩

theorem tableOf_costs (cost : Slot → Bool → Nat) :
    ∀ e ∈ tableOf cost, e.taken = cost e.slot true ∧ e.notTaken = cost e.slot false := by
  intro e he
  simp only [tableOf, List.mem_flatMap, List.mem_map] at he
  obtain ⟨page, -, n, -, rfl⟩ := he
  exact ⟨rfl, rfl⟩

theorem tableOf_names (cost : Slot → Bool → Nat) (sl : Slot) : ∃ e ∈ tableOf cost, e.slot = sl := by
  refine ⟨⟨sl, cost sl true, cost sl false⟩, ?_, rfl⟩
  simp only [tableOf, List.mem_flatMap, List.mem_map]
  exact ⟨sl.page, by cases sl.page <;> simp, sl.opcode.toFin, List.mem_finRange _, rfl⟩

/-- Settles O55: the cost charged, the default where nothing is named, and the table that names everything. -/
theorem clockAdvancesByDeclaredCost : Obligations.ClockAdvancesByDeclaredCost := by
  refine ⟨fun i s => ⟨_, exec_eq i s, ?_, rfl⟩, fun i taken => ?_, fun cost => ⟨tableOf cost, fun i taken => ?_⟩⟩
  · rw [advance_fine, formEffect_fine, formCost_eq_declaredCost]
  · rfl
  · have hcost := cycleCost_of_mem (tableOf_costs cost) (tableOf_names cost (slotOf i.effective))
    cases taken with
    | true => exact hcost true _
    | false => exact hcost false _

end Sys2Proof.Machine
end
